-- ==== Sys2Proof/Word.lean ====
section
/-! DEFINITION. The words of the hub: bytes, stamps and cycle numbers, and the names of its numbered things. -/

namespace Sys2Proof

/-- A byte, as it crosses a port (R185). -/
abbrev Byte := BitVec 8

/-- A reading of the stamp counter: 24 bits of pu, wrapping (R1). -/
abbrev Stamp := BitVec 24

/-- A cycle number: 16 bits, wrapping (R36). -/
abbrev Cycle := BitVec 16

/-- A controller port, CP0 to CP3 (R185). -/
abbrev Port := Fin 4

/-- A gate input, G0 to G3 (R10). -/
abbrev GateNo := Fin 4

/-- An output track, TRK0 to TRK7 (R131). -/
abbrev TrackNo := Fin 8

/-- A cam entry, 0 to 63 (R80). -/
abbrev EntryNo := Fin 64

/-- A subscription slot of a port, 0 to 3 (R152). -/
abbrev SlotNo := Fin 4

end Sys2Proof
end

