-- ==== Sys2Proof/Config.lean ====
section
/-! DEFINITION. What the spec leaves open: the free values, constants without a body, and the free orders drawn
from them. Nothing in Lean can evaluate one, so a statement about one holds whatever it is. -/

namespace Sys2Proof.Config

/-- The free choice among several things that the spec lets be taken in any order, drawn with the counter that State
holds (log entries 3 and 11). -/
opaque freePick : Nat → Nat

/-- The free length in pu of an interval closed by a gap of 0 pu, which R17 does not state (log entry 10). -/
opaque freeInterval : Nat → Nat

end Sys2Proof.Config
end

