-- ==== Sys2Proof/Syntax.lean ====
section
/-! DEFINITION. The commands of the hub: one constructor of Instr for each row of spec/opcode_table.json. The operands
of a request are the raw bytes the port carries (R187: the Port Interface checks no operand value), a field of several
bytes joined most significant byte first (R196). -/

namespace Sys2Proof

/-- The six filtered input lines (R2). -/
inductive LineId where
  | tooth
  | index
  | gate (n : GateNo)
  deriving DecidableEq, Repr

/-- The 12 image bytes of WRITE_ENTRY as they cross the port (R198), nothing checked yet. -/
structure RawImage where
  action : Byte
  start : BitVec 16
  stop : BitVec 16
  track : Byte
  width : BitVec 16
  tag : Byte
  gate : Byte
  flags : Byte
  count : Byte
  deriving DecidableEq, Repr

/-- The 6 image bytes of WRITE_SLOT as they cross the port (R199), nothing checked yet. -/
structure RawSlot where
  enabled : Byte
  tag : Byte
  mask : Byte
  kinds : Byte
  own : Byte
  mode : Byte
  deriving DecidableEq, Repr

/-- The commands, in the order of spec/opcode_table.json. `p` is the port a command comes from. -/
inductive Instr where
  | deviceReset
  | rawLevelChange (line : LineId) (level : Bool)
  | runExpiry (line : LineId)
  | gapCountExpiry
  | standstillExpiry
  | missDeadlineExpiry
  | freeStep
  | ticketDue
  | pulseEnd (track : TrackNo)
  | selectFall (p : Port)
  | selectRise (p : Port)
  | unknownCode (p : Port) (code : Byte)
  | nop (p : Port)
  | detach (p : Port)
  | readStatus (p : Port)
  | readInputs (p : Port)
  | freerunOn (p : Port)
  | freerunOff (p : Port)
  | restartReference (p : Port)
  | clearCounters (p : Port)
  | allocEntry (p : Port)
  | writeEntry (p : Port) (index : Byte) (image : RawImage)
  | readEntry (p : Port) (index : Byte)
  | armEntry (p : Port) (index : Byte)
  | holdEntry (p : Port) (index : Byte)
  | freeEntry (p : Port) (index : Byte)
  | modifyFlags (p : Port) (index setMask clearMask : Byte)
  | assignTrack (p : Port) (track : Byte)
  | releaseTrack (p : Port) (track : Byte)
  | setTrack (p : Port) (track polarity safe onLoss : Byte)
  | driveTrack (p : Port) (track value : Byte)
  | readTrack (p : Port) (track : Byte)
  | popEvent (p : Port)
  | readQueueInfo (p : Port)
  | readLatest (p : Port) (slot : Byte)
  | writeSlot (p : Port) (slot : Byte) (image : RawSlot)
  | readSlot (p : Port) (slot : Byte)
  | setPortMask (p : Port) (mask : Byte)
  | setAttnMask (p : Port) (causes : BitVec 16) (watermark : Byte)
  | readAttn (p : Port)
  | requestClaim (p : Port)
  | withdraw (p : Port)
  | releaseClaim (p : Port)
  | readClaim (p : Port)
  | stageParam (p : Port) (id : Byte) (value : BitVec 24)
  | readParam (p : Port) (id selector : Byte)
  | commit (p : Port)
  | discard (p : Port)
  | setQuota (p : Port) (target quota : Byte)
  | serialClockEdge (p : Port) (rising : Bool) (sdi : Bool)
  deriving DecidableEq, Repr

end Sys2Proof
end

