-- ==== Sys2Proof/Decode.lean ====
section
/-! DEFINITION. Reading commands: no row of spec/opcode_table.json gives bits, so no word spells a command; what a port
carries is bytes, and the request summary of R197 says which bytes are which request. -/

namespace Sys2Proof

/-- The command a word spells by the table's bits: the table gives no row any bits, so no word spells one. -/
def decodeTableWord (_nbits _w : Nat) : Option Instr := none

/-- The request summary's operand-byte column, by code; none for an unknown code (R189, R197). -/
def operandCount (code : Byte) : Option Nat :=
  match code.toNat with
  | 0x00 => some 0   -- NOP
  | 0x0A => some 0   -- DETACH
  | 0x10 => some 0   -- READ_STATUS
  | 0x11 => some 0   -- READ_INPUTS
  | 0x14 => some 0   -- FREERUN_ON
  | 0x15 => some 0   -- FREERUN_OFF
  | 0x16 => some 0   -- RESTART_REFERENCE
  | 0x17 => some 0   -- CLEAR_COUNTERS
  | 0x20 => some 0   -- ALLOC_ENTRY
  | 0x21 => some 13  -- WRITE_ENTRY
  | 0x22 => some 1   -- READ_ENTRY
  | 0x23 => some 1   -- ARM_ENTRY
  | 0x24 => some 1   -- HOLD_ENTRY
  | 0x25 => some 1   -- FREE_ENTRY
  | 0x26 => some 3   -- MODIFY_FLAGS
  | 0x30 => some 1   -- ASSIGN_TRACK
  | 0x31 => some 1   -- RELEASE_TRACK
  | 0x32 => some 4   -- SET_TRACK
  | 0x33 => some 2   -- DRIVE_TRACK
  | 0x34 => some 1   -- READ_TRACK
  | 0x40 => some 0   -- POP_EVENT
  | 0x41 => some 0   -- READ_QUEUE_INFO
  | 0x42 => some 1   -- READ_LATEST
  | 0x43 => some 7   -- WRITE_SLOT
  | 0x44 => some 1   -- READ_SLOT
  | 0x45 => some 1   -- SET_PORT_MASK
  | 0x46 => some 3   -- SET_ATTN_MASK
  | 0x47 => some 0   -- READ_ATTN
  | 0x50 => some 0   -- REQUEST_CLAIM
  | 0x51 => some 0   -- WITHDRAW
  | 0x52 => some 0   -- RELEASE_CLAIM
  | 0x53 => some 0   -- READ_CLAIM
  | 0x54 => some 4   -- STAGE_PARAM
  | 0x55 => some 2   -- READ_PARAM
  | 0x56 => some 0   -- COMMIT
  | 0x57 => some 0   -- DISCARD
  | 0x58 => some 2   -- SET_QUOTA
  | _ => none

/-- Two bytes, most significant first (R196). -/
def bytesOf16 (w : BitVec 16) : List Byte := [w.extractLsb' 8 8, w.extractLsb' 0 8]

/-- Three bytes, most significant first (R196). -/
def bytesOf24 (w : BitVec 24) : List Byte := [w.extractLsb' 16 8, w.extractLsb' 8 8, w.extractLsb' 0 8]

/-- A two-byte field from its bytes (R196). -/
def join16 (hi lo : Byte) : BitVec 16 := hi ++ lo

/-- A three-byte field from its bytes (R196). -/
def join24 (hi mid lo : Byte) : BitVec 24 := hi ++ mid ++ lo

/-- The bytes of a request, its code and then its operands (R197 to R199), and the port that carries it; none for a
command that is no request. An unknown code is one byte (R189). -/
def encodeRequest : Instr → Option (Port × List Byte)
  | .nop p => some (p, [0x00])
  | .detach p => some (p, [0x0A])
  | .readStatus p => some (p, [0x10])
  | .readInputs p => some (p, [0x11])
  | .freerunOn p => some (p, [0x14])
  | .freerunOff p => some (p, [0x15])
  | .restartReference p => some (p, [0x16])
  | .clearCounters p => some (p, [0x17])
  | .allocEntry p => some (p, [0x20])
  | .writeEntry p index im =>
      some (p, [0x21, index, im.action] ++ bytesOf16 im.start ++ bytesOf16 im.stop ++ [im.track] ++ bytesOf16 im.width
        ++ [im.tag, im.gate, im.flags, im.count])
  | .readEntry p index => some (p, [0x22, index])
  | .armEntry p index => some (p, [0x23, index])
  | .holdEntry p index => some (p, [0x24, index])
  | .freeEntry p index => some (p, [0x25, index])
  | .modifyFlags p index setMask clearMask => some (p, [0x26, index, setMask, clearMask])
  | .assignTrack p track => some (p, [0x30, track])
  | .releaseTrack p track => some (p, [0x31, track])
  | .setTrack p track polarity safe onLoss => some (p, [0x32, track, polarity, safe, onLoss])
  | .driveTrack p track value => some (p, [0x33, track, value])
  | .readTrack p track => some (p, [0x34, track])
  | .popEvent p => some (p, [0x40])
  | .readQueueInfo p => some (p, [0x41])
  | .readLatest p slot => some (p, [0x42, slot])
  | .writeSlot p slot im => some (p, [0x43, slot, im.enabled, im.tag, im.mask, im.kinds, im.own, im.mode])
  | .readSlot p slot => some (p, [0x44, slot])
  | .setPortMask p mask => some (p, [0x45, mask])
  | .setAttnMask p causes watermark => some (p, [0x46] ++ bytesOf16 causes ++ [watermark])
  | .readAttn p => some (p, [0x47])
  | .requestClaim p => some (p, [0x50])
  | .withdraw p => some (p, [0x51])
  | .releaseClaim p => some (p, [0x52])
  | .readClaim p => some (p, [0x53])
  | .stageParam p id value => some (p, [0x54, id] ++ bytesOf24 value)
  | .readParam p id selector => some (p, [0x55, id, selector])
  | .commit p => some (p, [0x56])
  | .discard p => some (p, [0x57])
  | .setQuota p target quota => some (p, [0x58, target, quota])
  | .unknownCode p code => if operandCount code = none then some (p, [code]) else none
  | .deviceReset => none
  | .rawLevelChange _ _ => none
  | .runExpiry _ => none
  | .gapCountExpiry => none
  | .standstillExpiry => none
  | .missDeadlineExpiry => none
  | .freeStep => none
  | .ticketDue => none
  | .pulseEnd _ => none
  | .selectFall _ => none
  | .selectRise _ => none
  | .serialClockEdge _ _ _ => none

/-- The request of no operand byte that a code names. -/
def decodePlain (p : Port) (code : Byte) : Option Instr :=
  match code.toNat with
  | 0x00 => some (.nop p)
  | 0x0A => some (.detach p)
  | 0x10 => some (.readStatus p)
  | 0x11 => some (.readInputs p)
  | 0x14 => some (.freerunOn p)
  | 0x15 => some (.freerunOff p)
  | 0x16 => some (.restartReference p)
  | 0x17 => some (.clearCounters p)
  | 0x20 => some (.allocEntry p)
  | 0x40 => some (.popEvent p)
  | 0x41 => some (.readQueueInfo p)
  | 0x47 => some (.readAttn p)
  | 0x50 => some (.requestClaim p)
  | 0x51 => some (.withdraw p)
  | 0x52 => some (.releaseClaim p)
  | 0x53 => some (.readClaim p)
  | 0x56 => some (.commit p)
  | 0x57 => some (.discard p)
  | _ => if operandCount code = none then some (.unknownCode p code) else none

/-- The request of one operand byte that a code names. -/
def decodeOne (p : Port) (code a : Byte) : Option Instr :=
  match code.toNat with
  | 0x22 => some (.readEntry p a)
  | 0x23 => some (.armEntry p a)
  | 0x24 => some (.holdEntry p a)
  | 0x25 => some (.freeEntry p a)
  | 0x30 => some (.assignTrack p a)
  | 0x31 => some (.releaseTrack p a)
  | 0x34 => some (.readTrack p a)
  | 0x42 => some (.readLatest p a)
  | 0x44 => some (.readSlot p a)
  | 0x45 => some (.setPortMask p a)
  | _ => none

/-- The request that a whole frame's request bytes spell on port p (R197); an unknown code is a request of its one
byte (R189); none where the bytes are no whole request. -/
def decodeRequest (p : Port) : List Byte → Option Instr
  | [code] => decodePlain p code
  | [code, a] => decodeOne p code a
  | [code, a, b] =>
      match code.toNat with
      | 0x33 => some (.driveTrack p a b)
      | 0x55 => some (.readParam p a b)
      | 0x58 => some (.setQuota p a b)
      | _ => none
  | [code, a, b, c] =>
      match code.toNat with
      | 0x26 => some (.modifyFlags p a b c)
      | 0x46 => some (.setAttnMask p (join16 a b) c)
      | _ => none
  | [code, a, b, c, d] =>
      match code.toNat with
      | 0x32 => some (.setTrack p a b c d)
      | 0x54 => some (.stageParam p a (join24 b c d))
      | _ => none
  | [code, a, b, c, d, e, f, g] =>
      if code = 0x43 then some (.writeSlot p a ⟨b, c, d, e, f, g⟩) else none
  | [code, a, b, c, d, e, f, g, h, i, j, k, l, m] =>
      if code = 0x21 then some (.writeEntry p a ⟨b, join16 c d, join16 e f, g, join16 h i, j, k, l, m⟩) else none
  | _ => none

/-- The eight bits of a byte, most significant first (R185). -/
def bitsOfByte (b : Byte) : List Bool :=
  [b.getMsbD 0, b.getMsbD 1, b.getMsbD 2, b.getMsbD 3, b.getMsbD 4, b.getMsbD 5, b.getMsbD 6, b.getMsbD 7]

/-- The bits of a run of bytes as the port carries them (R185). -/
def bitsOfBytes (bs : List Byte) : List Bool := bs.flatMap bitsOfByte

/-- A byte from eight bits, most significant first. -/
def byteOfBits (l : List Bool) : Byte := BitVec.ofNat 8 (l.foldl (fun n b => 2 * n + b.toNat) 0)

/-- The whole bytes among bits received, oldest first; a last group of fewer than eight bits is no byte yet. -/
def bytesOfBits : List Bool → List Byte
  | a :: b :: c :: d :: e :: f :: g :: h :: rest => byteOfBits [a, b, c, d, e, f, g, h] :: bytesOfBits rest
  | _ => []

/-- The length in bits of the request that begins with a code byte (R186, R197); eight for an unknown code (R189). -/
def requestBits (code : Byte) : Nat := 8 * (1 + (operandCount code).getD 0)

/-- The bits received are a whole request: the last bit of the code byte when the code needs no operand or is unknown,
otherwise the last bit of the last operand byte (R186, R189). -/
def requestComplete (bits : List Bool) : Bool :=
  match bytesOfBits bits with
  | [] => false
  | code :: _ => bits.length == requestBits code

end Sys2Proof
end

