-- ==== Sys2Proof/Machine/State.lean ====
section
/-! DEFINITION. The state of the hub, block by block as 00_scope.md shares it out, and its value right after device
reset. Angles are Nat in au, times and intervals Nat in pu, stamps and cycle numbers bit vectors that wrap. What the
spec derives from other state (estimate, depth in force, firing set, levels, derived causes) is computed in Flags.lean
and not stored twice (log entry 21). -/

namespace Sys2Proof.Machine

/-- Why the hub would stop: the spec names no event that stops it, so there is no fault (log entry 28). -/
inductive Fault where
  deriving DecidableEq, Repr

/-- Why a command has no outcome. -/
inductive Refusal where
  /-- Raised by exec for a command with no meaning yet; safe, since no claim about it can then be proved. -/
  | notModelled (mnemonic : String)
  deriving DecidableEq, Repr

/-! ### The reference configuration (R174) -/

/-- Polarity of TOOTH or INDEX (R4). -/
inductive Polarity where
  | rising
  | falling
  | both
  deriving DecidableEq, Repr

/-- Event enable of a gate input (R11). -/
inductive EventEnable where
  | never
  | activate
  | deactivate
  | both
  deriving DecidableEq, Repr

/-- Step threshold S (R20). -/
inductive StepThreshold where
  | off
  | quarter
  | eighth
  | sixteenth
  deriving DecidableEq, Repr

/-- The four settings of one gate input (R174, ids 0x20 to 0x2F). -/
structure GateConfig where
  activeHigh : Bool
  width : Fin 8
  event : EventEnable
  tag : Byte
  deriving DecidableEq, Repr

/-- One value for each of the 35 parameters (R174). -/
structure RefConfig where
  toothCount : Nat
  toothPolarity : Polarity
  toothWidth : Fin 8
  indexPolarity : Polarity
  indexWidth : Fin 8
  blanking : Nat
  missMargin : Nat
  missLimit : Nat
  holdoverLimit : Nat
  acquireDepth : Nat
  lockedDepth : Nat
  stepThreshold : StepThreshold
  cleanToLock : Nat
  settleCycles : Nat
  noiseAllowance : Nat
  noisyToUnlock : Nat
  indexMissLimit : Nat
  standstillLimit : Nat
  freeRunPeriod : Nat
  gates : Vector GateConfig 4
  deriving DecidableEq, Repr

/-- The defaults of R174. -/
def RefConfig.default : RefConfig where
  toothCount := 60
  toothPolarity := .rising
  toothWidth := 2
  indexPolarity := .rising
  indexWidth := 2
  blanking := 32
  missMargin := 8
  missLimit := 2
  holdoverLimit := 60
  acquireDepth := 1
  lockedDepth := 4
  stepThreshold := .eighth
  cleanToLock := 2
  settleCycles := 1
  noiseAllowance := 2
  noisyToUnlock := 3
  indexMissLimit := 1
  standstillLimit := 2000000
  freeRunPeriod := 40000
  gates := Vector.ofFn fun n => ⟨true, 2, .never, BitVec.ofNat 8 (0xF0 + n.val)⟩

/-! ### Edge Qualifier -/

/-- A line's filter (R2): raw level, filtered level (true is high) and the start of the run in progress. -/
structure FilterLine where
  raw : Bool
  filtered : Bool
  run : Option Stamp
  deriving DecidableEq, Repr

/-- The blanking window (R5): the stamp of the real edge that opened it and its length in pu. -/
structure BlankingWindow where
  start : Stamp
  length : Nat
  deriving DecidableEq, Repr

/-- A bit that one port reads and clears at read-completion, with the read mark on it (R14, R29). -/
structure Marked where
  value : Bool
  mark : Bool
  deriving DecidableEq, Repr

/-- What EQ owns (R1 to R16). -/
structure EdgeQualifier where
  tooth : FilterLine
  index : FilterLine
  gates : Vector FilterLine 4
  active : Vector Bool 4
  window : Option BlankingWindow
  cycleNoise : Nat
  totalNoise : Nat
  latches : Vector (Vector Marked 4) 4
  deriving DecidableEq, Repr

/-! ### Period Tracker -/

/-- A count of pu that may be absent and that, once it exceeds its limit, holds an expired condition (R18, R58). -/
inductive Timer where
  | absent
  | running (n : Nat)
  | expired
  deriving DecidableEq, Repr

/-- What PT owns (R17 to R33); the history is oldest first. -/
structure PeriodTracker where
  lastEdge : Option Stamp
  gap : Timer
  history : List Nat
  speedSteps : Nat
  stepSeen : Vector Marked 4
  deriving DecidableEq, Repr

/-! ### Angle Generator -/

/-- What AG owns (R34 to R55). -/
structure AngleGenerator where
  tooth : Nat
  cycle : Cycle
  valid : Bool
  toothStart : Stamp
  base : Nat
  timer : Nat
  deadline : Option Nat
  lateWindow : Option Nat
  missCount : Nat
  synthSinceReal : Bool
  indexPending : Bool
  freeRunning : Bool
  totalMisses : Nat
  lateTeeth : Nat
  indexNoise : Nat
  deriving DecidableEq, Repr

/-- The kind of a step (R35). -/
inductive StepKind where
  | real
  | synth
  | free
  deriving DecidableEq, Repr

/-- The index finding of a step (R35): NONE, MATCH, MISMATCH, MISS, ALIGN. -/
inductive Finding where
  | unchecked
  | matched
  | mismatch
  | miss
  | align
  deriving DecidableEq, Repr

/-- The report of a step (R35). -/
structure StepReport where
  kind : StepKind
  tooth : Nat
  cycle : Cycle
  time : Stamp
  missCount : Nat
  finding : Finding
  deriving DecidableEq, Repr

/-! ### Lock Supervisor -/

/-- The lock state (R56). -/
inductive LockState where
  | stopped
  | search
  | acquire
  | locked
  | holdover
  | freerun
  deriving DecidableEq, Repr

/-- What LS owns (R56 to R79). -/
structure LockSupervisor where
  lock : LockState
  settle : Nat
  clean : Nat
  noisy : Nat
  indexMiss : Nat
  holdover : Nat
  synthInCycle : Bool
  closingNoise : Nat
  standstill : Timer
  indexErrors : Nat
  lockMarks : Vector Bool 4
  deriving DecidableEq, Repr

/-! ### Cam Table Controller -/

/-- The state of a cam entry (R82). -/
inductive EntryState where
  | free
  | held
  | arming
  | live
  deriving DecidableEq, Repr

/-- The action of a cam entry (R81). -/
inductive Action where
  | note
  | set
  | clear
  | pulse
  | window
  deriving DecidableEq, Repr

/-- The gate of a cam entry (R116): NONE, Gn ACTIVE, Gn INACTIVE. -/
inductive GateCond where
  | always
  | active (n : GateNo)
  | inactive (n : GateNo)
  deriving DecidableEq, Repr

/-- The flags QUIET, REPORT_GATED and PAUSE of a cam entry (R96). -/
structure EntryFlags where
  quiet : Bool
  reportGated : Bool
  pause : Bool
  deriving DecidableEq, Repr

/-- The configuration fields of a cam entry (05, "The entry record"); the fire count is counted down at runtime. -/
structure EntryImage where
  action : Action
  start : Nat
  stop : Option Nat
  track : Option TrackNo
  width : Option Nat
  tag : Byte
  gate : GateCond
  flags : EntryFlags
  count : Nat
  deriving DecidableEq, Repr

/-- A cam entry (05, "The entry record"). -/
structure Entry where
  state : EntryState
  owner : Option Port
  image : EntryImage
  windowOpen : Bool
  spent : Bool
  lastFired : Option Cycle
  deriving DecidableEq, Repr

/-- The configuration fields of the default image (R80). -/
def EntryImage.default : EntryImage :=
  ⟨.note, 0, none, none, none, 0, .always, ⟨false, false, false⟩, 0⟩

/-- A FREE entry: no owner and the default image (R80). -/
def Entry.default : Entry := ⟨.free, none, EntryImage.default, false, false, none⟩

/-- What CTC owns (R80 to R103). -/
structure CamTable where
  entries : Vector Entry 64
  owned : Vector Nat 4
  quota : Vector Nat 4
  deriving DecidableEq, Repr

/-! ### Firing Scheduler -/

/-- The point of an entry (R104). -/
inductive Point where
  | start
  | stop
  deriving DecidableEq, Repr

/-- A ticket (06, "A ticket is a record with these fields"). -/
structure Ticket where
  entry : EntryNo
  point : Point
  due : Stamp
  cycle : Cycle
  deriving DecidableEq, Repr

/-- A deferred point (R113). -/
structure DeferredPoint where
  entry : EntryNo
  point : Point
  deriving DecidableEq, Repr

/-- The taken marks of one entry (R108). -/
structure TakenMarks where
  start : Bool
  stop : Bool
  deriving DecidableEq, Repr

/-- What FS owns (R104 to R130). -/
structure FiringScheduler where
  tickets : List Ticket
  deferred : List DeferredPoint
  deferredCycle : Option Cycle
  taken : Vector TakenMarks 64
  cycleSeen : Cycle
  overflows : Nat
  deriving DecidableEq, Repr

/-! ### Track Driver -/

/-- A track record (07, "Each track record holds these fields"). -/
structure Track where
  owner : Option Port
  latch : Bool
  windowCount : Nat
  pulse : Option Nat
  inverted : Bool
  safeActive : Bool
  keepOnLoss : Bool
  deriving DecidableEq, Repr

/-- The default record (07; R148). -/
def Track.default : Track := ⟨none, false, 0, none, false, false, false⟩

/-! ### Event Router -/

/-- The kind of an event record (R150). -/
inductive EventKind where
  | fire
  | opened
  | close
  | gated
  | spent
  | input
  deriving DecidableEq, Repr

/-- An event record (R150). -/
structure Event where
  kind : EventKind
  late : Bool
  forced : Bool
  level : Bool
  tag : Byte
  source : Nat
  owner : Option Port
  cycle : Option Cycle
  angle : Option Nat
  stamp : Stamp
  deriving DecidableEq, Repr

/-- A subscription slot's settings (R152); the kinds set has FIRE in bit 0 to INPUT in bit 5 (R199). -/
structure Slot where
  enabled : Bool
  tag : Byte
  mask : Byte
  kinds : BitVec 6
  own : Bool
  latest : Bool
  deriving DecidableEq, Repr

/-- The default settings of a slot (R152). -/
def Slot.default : Slot := ⟨false, 0, 0xFF, 0, false, false⟩

/-- A slot's latest register with its read mark (R159, R160). -/
structure LatestRegister where
  record : Option Event
  fresh : Bool
  overwritten : Bool
  mark : Bool
  deriving DecidableEq, Repr

/-- An empty latest register (R160). -/
def LatestRegister.empty : LatestRegister := ⟨none, false, false, false⟩

/-- A set of attention causes, LOCK in bit 0 to INPUT in bit 8 (R197). -/
abbrev CauseSet := BitVec 9

/-- What ER holds for one port (R149 to R166); the queue is oldest first. -/
structure EventPort where
  portMask : Byte
  slots : Vector Slot 4
  latest : Vector LatestRegister 4
  queue : List Event
  lost : Nat
  watermark : Nat
  attnMask : CauseSet
  lockCause : Bool
  claimCause : Bool
  overflowCause : Bool
  popMark : Bool
  lostMark : Bool
  deriving DecidableEq, Repr

/-- ER's part of a port after a detach or device reset (R165, R166). -/
def EventPort.default : EventPort where
  portMask := 0xFF
  slots := Vector.replicate 4 Slot.default
  latest := Vector.replicate 4 LatestRegister.empty
  queue := []
  lost := 0
  watermark := 1
  attnMask := 0
  lockCause := false
  claimCause := false
  overflowCause := false
  popMark := false
  lostMark := false

/-! ### Claim Controller -/

/-- What CC owns (R167 to R184). Commit-pending is set exactly while the pending record is present. -/
structure ClaimController where
  holder : Option Port
  waiting : List Port
  active : RefConfig
  staged : Option RefConfig
  pendingRecord : Option RefConfig
  claimMarks : Vector Bool 4
  deriving DecidableEq, Repr

/-! ### Port Interfaces -/

/-- The framing state of a port (R186). CPpCS_n is high exactly in IDLE. -/
inductive Framing where
  | idle
  | receiving
  | responding
  | trailing
  | discarding
  deriving DecidableEq, Repr

/-- What a Port Interface holds (R185 to R195), with the levels of its clock line and of CPpSDO (none is high
impedance). Request bits are oldest first; `response` is the result byte and the response bytes. -/
structure PortInterface where
  framing : Framing
  bits : List Bool
  response : List Byte
  shifted : Nat
  frameErrors : Nat
  sck : Bool
  sdo : Option Bool
  deriving DecidableEq, Repr

/-- The result codes (R191). -/
inductive Result where
  | ok
  | queued
  | already
  | denied
  | state
  | range
  | full
  | quota
  | pending
  | empty
  | notWaiting
  | trackInUse
  | unknown
  deriving DecidableEq, Repr

/-- What a block answers to a request: its result and the response bytes that follow the result byte (R191). -/
structure Reply where
  result : Result
  bytes : List Byte
  deriving DecidableEq, Repr

/-! ### The hub -/

/-- The whole state: whether RESET_n is low (00, "Physical interface"), the stamp counter, the ten blocks, the queue of
waiting commands (first in, first out, log entry 1) and the counter that free values are drawn with (log entry 24). -/
structure State where
  resetLow : Bool
  stamp : Stamp
  eq : EdgeQualifier
  pt : PeriodTracker
  ag : AngleGenerator
  ls : LockSupervisor
  ctc : CamTable
  fs : FiringScheduler
  td : Vector Track 8
  er : Vector EventPort 4
  cc : ClaimController
  pi : Vector PortInterface 4
  pending : List Instr
  freeCount : Nat
  deriving DecidableEq, Repr

/-- EQ right after device reset, for the raw levels the six lines have when it ends (R15). -/
def EdgeQualifier.reset (tooth index : Bool) (gates : Vector Bool 4) : EdgeQualifier where
  tooth := ⟨tooth, tooth, none⟩
  index := ⟨index, index, none⟩
  gates := Vector.ofFn fun n => ⟨gates[n], gates[n], none⟩
  active := Vector.ofFn fun n => gates[n] == RefConfig.default.gates[n].activeHigh
  window := none
  cycleNoise := 0
  totalNoise := 0
  latches := Vector.replicate 4 (Vector.replicate 4 ⟨false, false⟩)

/-- PT right after device reset (R32). -/
def PeriodTracker.reset : PeriodTracker := ⟨none, .absent, [], 0, Vector.replicate 4 ⟨false, false⟩⟩

/-- AG right after device reset (R54). -/
def AngleGenerator.reset : AngleGenerator :=
  ⟨0, 0, false, 0, 0, 0, none, none, 0, false, false, false, 0, 0, 0⟩

/-- LS right after device reset (R79). -/
def LockSupervisor.reset : LockSupervisor :=
  ⟨.stopped, 0, 0, 0, 0, 0, false, 0, .absent, 0, Vector.replicate 4 false⟩

/-- CTC right after device reset (R103). -/
def CamTable.reset : CamTable :=
  ⟨Vector.replicate 64 Entry.default, Vector.replicate 4 0, Vector.replicate 4 16⟩

/-- FS right after device reset (R130). -/
def FiringScheduler.reset : FiringScheduler := ⟨[], [], none, Vector.replicate 64 ⟨false, false⟩, 0, 0⟩

/-- CC right after device reset (R184). -/
def ClaimController.reset : ClaimController := ⟨none, [], RefConfig.default, none, none, Vector.replicate 4 false⟩

/-- A Port Interface right after device reset (R195), by the levels its select line (true is low) and clock have: with
the select line low it discards until the rise and shifts out ones, otherwise CPpSDO is at high impedance. -/
def PortInterface.reset (selectLow sck : Bool) : PortInterface where
  framing := if selectLow then .discarding else .idle
  bits := []
  response := []
  shifted := 0
  frameErrors := 0
  sck := sck
  sdo := if selectLow then some true else none

/-- The hub right after device reset. The spec gives the input pins no level: every raw level low, every select line
high, every serial clock low (DESIGN CHOICE, unsafe, log entry 8). -/
def State.reset : State where
  resetLow := false
  stamp := 0
  eq := EdgeQualifier.reset false false (Vector.replicate 4 false)
  pt := PeriodTracker.reset
  ag := AngleGenerator.reset
  ls := LockSupervisor.reset
  ctc := CamTable.reset
  fs := FiringScheduler.reset
  td := Vector.replicate 8 Track.default
  er := Vector.replicate 4 EventPort.default
  cc := ClaimController.reset
  pi := Vector.replicate 4 (PortInterface.reset false false)
  pending := []
  freeCount := 0

end Sys2Proof.Machine
end

