-- ==== Sys2Proof/Machine/Ops.lean ====
section
/-! DEFINITION. Shared operations: times and saturating counts, updates of one place of a block, free orders, the causes
set on all ports, and the taking of a request by a Port Interface. -/

namespace Sys2Proof.Machine

/-! ### Times and counts -/

/-- The time elapsed since a stamp, modulo 16,777,216 (R1). -/
def elapsed (since now : Stamp) : Nat := (now - since).toNat

/-- A count that goes up by one and holds its maximum (00_scope.md, "Counters"). -/
def satInc (max n : Nat) : Nat := min (n + 1) max

/-- A 16-bit counter's increment. -/
def satInc16 (n : Nat) : Nat := satInc 65535 n

/-- An 8-bit count's increment. -/
def satInc8 (n : Nat) : Nat := satInc 255 n

/-- The greatest time in pu a 24-bit quantity holds. -/
def maxPu : Nat := 16777215

/-- One pu passes at a count of R18 or R58. -/
def Timer.tick : Timer → Timer
  | .absent => .absent
  | .running n => .running (n + 1)
  | .expired => .expired

/-- The count has exceeded the limit: it holds the expired condition, or has reached the limit plus one (R18, R58). -/
def Timer.over (limit : Nat) : Timer → Bool
  | .absent => false
  | .running n => limit < n
  | .expired => true

/-- A running count that exceeds the limit expires; every other count is left (R18, R58). -/
def Timer.judge (limit : Nat) : Timer → Timer
  | .running n => if limit < n then .expired else .running n
  | .absent => .absent
  | .expired => .expired

/-- The count runs and has exceeded the limit: its expiry is due. -/
def Timer.due (limit : Nat) : Timer → Bool
  | .running n => limit < n
  | .absent => false
  | .expired => false

/-! ### One place of a vector, all places of a vector -/

/-- The vector with one place changed. -/
def vmod {α : Type} {n : Nat} (v : Vector α n) (i : Fin n) (f : α → α) : Vector α n :=
  v.set i.val (f v[i]) i.isLt

/-- The vector with every place changed. -/
def vall {α β : Type} {n : Nat} (v : Vector α n) (f : α → β) : Vector β n := Vector.ofFn fun i => f v[i]

namespace State

/-- The state with one cam entry changed. -/
def modEntry (s : State) (e : EntryNo) (f : Entry → Entry) : State :=
  { s with ctc := { s.ctc with entries := vmod s.ctc.entries e f } }

/-- The state with one track changed. -/
def modTrack (s : State) (k : TrackNo) (f : Track → Track) : State := { s with td := vmod s.td k f }

/-- The state with ER's part of one port changed. -/
def modEvents (s : State) (p : Port) (f : EventPort → EventPort) : State := { s with er := vmod s.er p f }

/-- The state with one Port Interface changed. -/
def modPort (s : State) (p : Port) (f : PortInterface → PortInterface) : State := { s with pi := vmod s.pi p f }

end State

/-! ### Free orders -/

/-- A list in a free order: each next member is a free pick among those left, drawn with the counter (log entry 11).
A list of one member is itself, whatever the free value. -/
def freeOrder {α : Type} : Nat → Nat → List α → List α
  | _, _, [] => []
  | _, _, [a] => [a]
  | 0, _, l => l
  | fuel + 1, count, l =>
      match l[Config.freePick count % l.length]? with
      | some a => a :: freeOrder fuel (count + 1) (l.eraseIdx (Config.freePick count % l.length))
      | none => l

/-! ### Causes that blocks set (R76, R161) -/

/-- LS sets the LOCK cause on all four ports, which removes every LOCK mark (R76). -/
def setLockCause (s : State) : State :=
  { s with
    er := vall s.er fun q => { q with lockCause := true }
    ls := { s.ls with lockMarks := Vector.replicate 4 false } }

/-- CC sets port p's CLAIM cause, which removes p's CLAIM mark (R161, R172). -/
def setClaimCause (p : Port) (s : State) : State :=
  { s.modEvents p fun q => { q with claimCause := true } with
    cc := { s.cc with claimMarks := vmod s.cc.claimMarks p fun _ => false } }

/-! ### Taking a request (R187, R191) -/

/-- The encoding of a result code (R191). -/
def Result.code : Result → Byte
  | .ok => 0x00
  | .queued => 0x01
  | .already => 0x02
  | .denied => 0x03
  | .state => 0x04
  | .range => 0x05
  | .full => 0x06
  | .quota => 0x07
  | .pending => 0x08
  | .empty => 0x09
  | .notWaiting => 0x0A
  | .trackInUse => 0x0B
  | .unknown => 0x0C

/-- A refusal of a request: its result alone, with no response bytes (R191). -/
def Reply.bare (r : Result) : Reply := ⟨r, []⟩

/-- The bytes of a reply as the port shifts them out: the result byte and then the response bytes (R191). -/
def Reply.wire (r : Reply) : List Byte := r.result.code :: r.bytes

/-- The request is taken: the block acts, and the Port Interface holds the response as formed and goes to RESPONDING
(R186, R187). The completing edge is a rising edge, and CPpSDO keeps the one it shows until the next falling edge. -/
def answerRequest (p : Port) (bits : List Bool) (act : State → State × Reply) (s : State) : State :=
  (act s).1.modPort p fun q =>
    { q with
      framing := .responding
      bits := bits
      response := (act s).2.wire
      shifted := 0
      sck := true
      sdo := some true }

/-- Port p can complete this request: RESET_n is high (R195), and the port is RECEIVING with bits that begin the request's
bits and are not yet all of them (R186; log entry 5). -/
def canTake (p : Port) (bits : List Bool) (s : State) : Bool :=
  !s.resetLow && s.pi[p].framing == .receiving && s.pi[p].bits.isPrefixOf bits && s.pi[p].bits.length < bits.length

/-- A request command: the rest of the request's bits arrive, the last of them completes it, and it is taken. Where
RESET_n is low or port p is not RECEIVING the hub takes no request (R185, R186, R195), and where other bits stand in the
frame this request cannot be the one that completes (log entry 5): nothing changes. -/
def takeRequest (p : Port) (i : Instr) (act : State → State × Reply) (s : State) : State :=
  match encodeRequest i with
  | none => s
  | some (_, bytes) => if canTake p (bitsOfBytes bytes) s then answerRequest p (bitsOfBytes bytes) act s else s

end Sys2Proof.Machine
end

