-- ==== Sys2Proof/Machine/Flags.lean ====
section
/-! DEFINITION. The conditions and values the spec derives from the state: the firing set, the depth in force and the
estimate, tooth angles and the interpolated angle, gates, track levels, attention causes and lines. -/

namespace Sys2Proof.Machine

/-! ### Lock Supervisor and Period Tracker -/

/-- The lock state is in the firing set: HOLDOVER, FREERUN, or LOCKED with settle remaining 0 (R56). -/
def LockSupervisor.inFiring (l : LockSupervisor) : Bool :=
  match l.lock with
  | .holdover => true
  | .freerun => true
  | .locked => l.settle == 0
  | .stopped => false
  | .search => false
  | .acquire => false

/-- The hub is in the firing set (R56). -/
def State.inFiring (s : State) : Bool := s.ls.inFiring

/-- The depth that a lock state selects: DA in STOPPED, SEARCH and ACQUIRE, DL otherwise (R22). -/
def depthFor (c : RefConfig) : LockState → Nat
  | .stopped => c.acquireDepth
  | .search => c.acquireDepth
  | .acquire => c.acquireDepth
  | .locked => c.lockedDepth
  | .holdover => c.lockedDepth
  | .freerun => c.lockedDepth

/-- The depth in force (R22). -/
def State.depth (s : State) : Nat := depthFor s.cc.active s.ls.lock

/-- The estimate of a history: the floor of the mean, absent while the history is empty (R21). -/
def estimateOf (history : List Nat) : Option Nat :=
  if history = [] then none else some (history.sum / history.length)

/-- The estimate that PT holds (R21). -/
def State.estimate (s : State) : Option Nat := estimateOf s.pt.history

/-- The denominator of the step threshold, none when it is OFF (R20). -/
def StepThreshold.denominator : StepThreshold → Option Nat
  | .off => none
  | .quarter => some 4
  | .eighth => some 8
  | .sixteenth => some 16

/-! ### Edge Qualifier -/

/-- The width in pu that a filter width code stands for (01, the width table). -/
def filterWidth (code : Fin 8) : Nat := if code = 0 then 0 else 2 ^ (code.val + 1)

/-- The transition to `level` is an edge of the line under this polarity (R4). -/
def Polarity.accepts (q : Polarity) (level : Bool) : Bool :=
  match q with
  | .rising => level
  | .falling => !level
  | .both => true

/-- The event enable matches a change to this active state (R11). -/
def EventEnable.admits (e : EventEnable) (active : Bool) : Bool :=
  match e with
  | .never => false
  | .activate => active
  | .deactivate => !active
  | .both => true

/-- A line's filter. -/
def EdgeQualifier.line (q : EdgeQualifier) : LineId → FilterLine
  | .tooth => q.tooth
  | .index => q.index
  | .gate n => q.gates[n]

/-- A line's filter width code in a configuration (R174). -/
def RefConfig.widthCode (c : RefConfig) : LineId → Fin 8
  | .tooth => c.toothWidth
  | .index => c.indexWidth
  | .gate n => c.gates[n].width

/-- A filter run is in progress and has lasted the line's filter width (R2). -/
def runDue (line : LineId) (s : State) : Bool :=
  match (s.eq.line line).run with
  | none => false
  | some t => decide (filterWidth (s.cc.active.widthCode line) ≤ elapsed t s.stamp)

/-- The blanking window is present and has not run out (R5). -/
def inBlanking (s : State) : Bool :=
  match s.eq.window with
  | none => false
  | some w => decide (elapsed w.start s.stamp < w.length)

/-! ### Angles -/

/-- The start angle a(k) of tooth k with T teeth; a(T) is 3600 (R34). -/
def toothAngle (teeth k : Nat) : Nat := k * 3600 / teeth

/-- The tooth that follows tooth k (R39). -/
def nextTooth (teeth k : Nat) : Nat := (k + 1) % teeth

/-- The tooth period P: the estimate in ACQUIRE, LOCKED and HOLDOVER, the free-run period in FREERUN (R48, R104). -/
def State.period (s : State) : Option Nat :=
  match s.ls.lock with
  | .stopped => none
  | .search => none
  | .acquire => s.estimate
  | .locked => s.estimate
  | .holdover => s.estimate
  | .freerun => some s.cc.active.freeRunPeriod

/-- The start angle of the tooth after the present one. -/
def State.toothEnd (s : State) : Nat := toothAngle s.cc.active.toothCount (s.ag.tooth + 1)

/-- The interpolated angle (R48). -/
def State.angle (s : State) : Option Nat :=
  if s.ag.valid then
    match s.period with
    | none => none
    | some p => some (min (s.ag.base + (s.toothEnd - s.ag.base) * s.ag.timer / p) (s.toothEnd - 1))
  else none

/-- The cycle number where the angle is valid, absent where it is not (R12, R123). -/
def State.cycleIfValid (s : State) : Option Cycle := if s.ag.valid then some s.ag.cycle else none

/-! ### Gates and tracks -/

/-- The gate is satisfied by the active states as they stand (R116). -/
def gateSatisfied (s : State) : GateCond → Bool
  | .always => true
  | .active n => s.eq.active[n]
  | .inactive n => !s.eq.active[n]

/-- The logical level of a track (R131): true is active. -/
def Track.logical (k : Track) : Bool := k.latch || decide (0 < k.windowCount) || k.pulse.isSome

/-- The line level of a track (R132): true is high. -/
def Track.line (k : Track) : Bool := k.logical != k.inverted

/-- The level of the line TRK0 to TRK7 (R132). -/
def State.trackLine (s : State) (k : TrackNo) : Bool := s.td[k].line

/-! ### Attention -/

/-- The nine causes of one port as bits, by its part of ER and whether any of its change latches is set (R161, R197). -/
def EventPort.pendingCauses (q : EventPort) (input : Bool) : CauseSet :=
  BitVec.ofBool input ++ BitVec.ofBool q.latest[3].fresh ++ BitVec.ofBool q.latest[2].fresh
    ++ BitVec.ofBool q.latest[1].fresh ++ BitVec.ofBool q.latest[0].fresh
    ++ BitVec.ofBool (decide (q.watermark ≤ q.queue.length)) ++ BitVec.ofBool q.overflowCause
    ++ BitVec.ofBool q.claimCause ++ BitVec.ofBool q.lockCause

/-- Any of port p's four change latches is set: p's INPUT cause (R161). -/
def State.inputCause (s : State) (p : Port) : Bool :=
  s.eq.latches[p][0].value || s.eq.latches[p][1].value || s.eq.latches[p][2].value || s.eq.latches[p][3].value

/-- The pending causes of port p (R161). -/
def State.causes (s : State) (p : Port) : CauseSet := s.er[p].pendingCauses (s.inputCause p)

/-- The causes of port p that are pending and enabled (R163). -/
def State.effectiveCauses (s : State) (p : Port) : CauseSet := s.causes p &&& s.er[p].attnMask

/-- CPpATTN_n is driven low: an enabled cause of p is pending (R163). -/
def State.attentionLow (s : State) (p : Port) : Bool := s.effectiveCauses p != 0

/-- The attention summary of a set of effective causes: NONE 0, then the causes in priority order from 1 (R164, R197). -/
def summaryOf (c : CauseSet) : Nat :=
  match (List.range 9).find? fun i => c.getLsbD i with
  | none => 0
  | some i => i + 1

/-- CPpCS_n is low: the port is in a frame or is discarding one (R186, R195). -/
def PortInterface.selected (q : PortInterface) : Bool := q.framing != .idle

end Sys2Proof.Machine
end

