-- ==== Sys2Proof/Machine/Operands.lean ====
section
/-! DEFINITION. The layouts of what crosses a port (R196 to R201): reading operand bytes, where an encoding that stands
for no value reads as none and the owning block answers RANGE, and forming response bytes. -/

namespace Sys2Proof.Machine

/-! ### Small fields (R196) -/

/-- A one-byte field. -/
def byteOf (n : Nat) : Byte := BitVec.ofNat 8 n

/-- A two-byte field, most significant byte first. -/
def be16 (n : Nat) : List Byte := bytesOf16 (BitVec.ofNat 16 n)

/-- A three-byte field, most significant byte first. -/
def be24 (n : Nat) : List Byte := bytesOf24 (BitVec.ofNat 24 n)

/-- A byte of flag bits, bit 0 first; the bits not named read as 0. -/
def flagByte (bits : List Bool) : Byte := BitVec.ofNat 8 (bits.foldr (fun b n => b.toNat + 2 * n) 0)

/-- A port, an owner or a track, 0xFF when absent. -/
def optByte {n : Nat} : Option (Fin n) → Byte
  | none => 0xFF
  | some i => byteOf i.val

/-- An angle, 0xFFFF when absent. -/
def angleBytes : Option Nat → List Byte
  | none => [0xFF, 0xFF]
  | some a => be16 a

/-- A single-byte yes/no operand: 0 and 1, every other value stands for none. -/
def yesNo (b : Byte) : Option Bool := if b = 0 then some false else if b = 1 then some true else none

/-- A track number below 8, otherwise none (R133). -/
def trackOf (b : Byte) : Option TrackNo := if h : b.toNat < 8 then some ⟨b.toNat, h⟩ else none

/-- An entry index below 64, otherwise none (R86). -/
def entryOf (b : Byte) : Option EntryNo := if h : b.toNat < 64 then some ⟨b.toNat, h⟩ else none

/-- A slot number below 4, otherwise none (R152). -/
def slotOf (b : Byte) : Option SlotNo := if h : b.toNat < 4 then some ⟨b.toNat, h⟩ else none

/-- A port number below 4, otherwise none (R182). -/
def portOf (b : Byte) : Option Port := if h : b.toNat < 4 then some ⟨b.toNat, h⟩ else none

/-! ### The entry image (R198) -/

/-- The action byte. -/
def actionOf (b : Byte) : Option Action :=
  match b.toNat with
  | 0 => some .note
  | 1 => some .set
  | 2 => some .clear
  | 3 => some .pulse
  | 4 => some .window
  | _ => none

/-- The encoding of an action. -/
def Action.code : Action → Byte
  | .note => 0
  | .set => 1
  | .clear => 2
  | .pulse => 3
  | .window => 4

/-- The start angle: 0 to 3599. -/
def startOf (w : BitVec 16) : Option Nat := if w.toNat < 3600 then some w.toNat else none

/-- The end angle: 0 to 3599, or 0xFFFF for absent. -/
def stopOf (w : BitVec 16) : Option (Option Nat) :=
  if w = 0xFFFF then some none else if w.toNat < 3600 then some (some w.toNat) else none

/-- The track of an image: 0 to 7, or 0xFF for none. -/
def imageTrackOf (b : Byte) : Option (Option TrackNo) := if b = 0xFF then some none else (trackOf b).map some

/-- The pulse width: 1 to 65,535 µs, or 0 for absent. -/
def widthOf (w : BitVec 16) : Option Nat := if w = 0 then none else some w.toNat

/-- The gate byte: NONE 0x00, Gn ACTIVE 0x10 + n, Gn INACTIVE 0x20 + n. -/
def gateOf (b : Byte) : Option GateCond :=
  if b = 0 then some .always
  else if b.extractLsb' 2 6 = 0b000100 then some (.active (b.extractLsb' 0 2).toFin)
  else if b.extractLsb' 2 6 = 0b001000 then some (.inactive (b.extractLsb' 0 2).toFin)
  else none

/-- The encoding of a gate. -/
def GateCond.code : GateCond → Byte
  | .always => 0x00
  | .active n => byteOf (0x10 + n.val)
  | .inactive n => byteOf (0x20 + n.val)

/-- A flags byte or flag mask: QUIET bit 0, REPORT_GATED bit 1, PAUSE bit 2; any other bit set stands for no value. -/
def flagsOf (b : Byte) : Option EntryFlags :=
  if b.toNat < 8 then some ⟨b.getLsbD 0, b.getLsbD 1, b.getLsbD 2⟩ else none

/-- The encoding of the flags. -/
def EntryFlags.code (f : EntryFlags) : Byte := flagByte [f.quiet, f.reportGated, f.pause]

/-- The image that WRITE_ENTRY's bytes stand for, none when any field is encoded against R198 (R87). -/
def parseImage (r : RawImage) : Option EntryImage := do
  let action ← actionOf r.action
  let start ← startOf r.start
  let stop ← stopOf r.stop
  let track ← imageTrackOf r.track
  let gate ← gateOf r.gate
  let flags ← flagsOf r.flags
  return ⟨action, start, stop, track, widthOf r.width, r.tag, gate, flags, r.count.toNat⟩

/-- The 12 image bytes of READ_ENTRY (R198). -/
def EntryImage.wire (i : EntryImage) : List Byte :=
  [i.action.code] ++ be16 i.start ++ angleBytes i.stop ++ [optByte i.track] ++ be16 (i.width.getD 0)
    ++ [i.tag, i.gate.code, i.flags.code, byteOf i.count]

/-- The encoding of an entry state (R197). -/
def EntryState.code : EntryState → Byte
  | .free => 0
  | .held => 1
  | .arming => 2
  | .live => 3

/-- The 17 bytes of READ_ENTRY (R88, R198). -/
def Entry.wire (e : Entry) : List Byte :=
  e.image.wire ++ [e.state.code, optByte e.owner, flagByte [e.windowOpen, e.spent, e.lastFired.isSome]]
    ++ bytesOf16 (e.lastFired.getD 0)

/-! ### Event records and slots (R199) -/

/-- The encoding of an event kind; the kinds set has the kind at the bit one below it (R199). -/
def EventKind.code : EventKind → Nat
  | .fire => 1
  | .opened => 2
  | .close => 3
  | .gated => 4
  | .spent => 5
  | .input => 6

/-- The 11 bytes of an event record; the owner is not carried (R150, R199). -/
def Event.wire (e : Event) : List Byte :=
  [byteOf e.kind.code, flagByte [e.late, e.forced, e.level, e.cycle.isSome], e.tag, byteOf e.source]
    ++ bytesOf16 (e.cycle.getD 0) ++ angleBytes e.angle ++ bytesOf24 e.stamp

/-- The settings that WRITE_SLOT's image stands for, none when a byte stands for no value (R152, R199). -/
def parseSlot (r : RawSlot) : Option Slot := do
  let enabled ← yesNo r.enabled
  let kinds ← if r.kinds.toNat < 64 then some (r.kinds.extractLsb' 0 6) else none
  let own ← yesNo r.own
  let latest ← yesNo r.mode
  return ⟨enabled, r.tag, r.mask, kinds, own, latest⟩

/-- The six bytes of a slot image (R199). -/
def Slot.wire (k : Slot) : List Byte :=
  [flagByte [k.enabled], k.tag, k.mask, k.kinds.setWidth 8, flagByte [k.own], flagByte [k.latest]]

/-- The byte that READ_LATEST puts before the record: fresh bit 0, OVERWRITTEN bit 1 (R199). -/
def LatestRegister.flags (r : LatestRegister) : Byte := flagByte [r.fresh, r.overwritten]

/-- The two bytes of a cause set (R197). -/
def CauseSet.wire (c : CauseSet) : List Byte := bytesOf16 (c.setWidth 16)

/-- The cause set of SET_ATTN_MASK, none when a bit beyond the nine causes is set (R162, R196). -/
def causeSetOf (w : BitVec 16) : Option CauseSet := if w.toNat < 512 then some (w.setWidth 9) else none

/-- The watermark operand: 1 to 16 (R162). -/
def watermarkOf (b : Byte) : Option Nat := if 1 ≤ b.toNat ∧ b.toNat ≤ 16 then some b.toNat else none

/-! ### Track records (R197) -/

/-- The pulse remaining in µs, rounded up, 1 to 65,535 while a pulse runs and 0 when none does (R146, R197; log entry
13 for a pulse at its very end). -/
def Track.pulseMicros (k : Track) : Nat :=
  match k.pulse with
  | none => 0
  | some n => max 1 ((n + 3) / 4)

/-- The five bytes of READ_TRACK (R146, R197). -/
def Track.wire (k : Track) : List Byte :=
  [optByte k.owner,
    flagByte [k.latch, k.inverted, k.safeActive, k.keepOnLoss, k.logical, k.line, k.pulse.isSome],
    byteOf k.windowCount] ++ be16 k.pulseMicros

/-- The byte of DRIVE_TRACK's response: logical level bit 0, line level bit 1 (R197). -/
def Track.levels (k : Track) : Byte := flagByte [k.logical, k.line]

/-! ### Parameters (R174, R201) -/

/-- The 35 parameters of R174. -/
inductive Param where
  | toothCount
  | toothPolarity
  | toothWidth
  | indexPolarity
  | indexWidth
  | blanking
  | missMargin
  | missLimit
  | holdoverLimit
  | acquireDepth
  | lockedDepth
  | stepThreshold
  | cleanToLock
  | settleCycles
  | noiseAllowance
  | noisyToUnlock
  | indexMissLimit
  | standstillLimit
  | freeRunPeriod
  | gateLevel (n : GateNo)
  | gateWidth (n : GateNo)
  | gateEvent (n : GateNo)
  | gateTag (n : GateNo)
  deriving DecidableEq, Repr

/-- The parameter of an id, none for an unknown id (R174). -/
def paramOf (id : Byte) : Option Param :=
  match id.toNat with
  | 0x01 => some .toothCount
  | 0x02 => some .toothPolarity
  | 0x03 => some .toothWidth
  | 0x04 => some .indexPolarity
  | 0x05 => some .indexWidth
  | 0x10 => some .blanking
  | 0x11 => some .missMargin
  | 0x12 => some .missLimit
  | 0x13 => some .holdoverLimit
  | 0x14 => some .acquireDepth
  | 0x15 => some .lockedDepth
  | 0x16 => some .stepThreshold
  | 0x17 => some .cleanToLock
  | 0x18 => some .settleCycles
  | 0x19 => some .noiseAllowance
  | 0x1A => some .noisyToUnlock
  | 0x1B => some .indexMissLimit
  | 0x1C => some .standstillLimit
  | 0x1D => some .freeRunPeriod
  | 0x20 => some (.gateLevel 0)
  | 0x21 => some (.gateLevel 1)
  | 0x22 => some (.gateLevel 2)
  | 0x23 => some (.gateLevel 3)
  | 0x24 => some (.gateWidth 0)
  | 0x25 => some (.gateWidth 1)
  | 0x26 => some (.gateWidth 2)
  | 0x27 => some (.gateWidth 3)
  | 0x28 => some (.gateEvent 0)
  | 0x29 => some (.gateEvent 1)
  | 0x2A => some (.gateEvent 2)
  | 0x2B => some (.gateEvent 3)
  | 0x2C => some (.gateTag 0)
  | 0x2D => some (.gateTag 1)
  | 0x2E => some (.gateTag 2)
  | 0x2F => some (.gateTag 3)
  | _ => none

/-- RISING 0, FALLING 1, BOTH 2 (R201). -/
def polarityOf : Nat → Option Polarity
  | 0 => some .rising
  | 1 => some .falling
  | 2 => some .both
  | _ => none

/-- The encoding of a polarity (R201). -/
def Polarity.code : Polarity → Nat
  | .rising => 0
  | .falling => 1
  | .both => 2

/-- NONE 0, ACTIVATE 1, DEACTIVATE 2, BOTH 3 (R201). -/
def eventEnableOf : Nat → Option EventEnable
  | 0 => some .never
  | 1 => some .activate
  | 2 => some .deactivate
  | 3 => some .both
  | _ => none

/-- The encoding of an event enable (R201). -/
def EventEnable.code : EventEnable → Nat
  | .never => 0
  | .activate => 1
  | .deactivate => 2
  | .both => 3

/-- OFF 0, 1/4 1, 1/8 2, 1/16 3 (R201). -/
def stepThresholdOf : Nat → Option StepThreshold
  | 0 => some .off
  | 1 => some .quarter
  | 2 => some .eighth
  | 3 => some .sixteenth
  | _ => none

/-- The encoding of a step threshold (R201). -/
def StepThreshold.code : StepThreshold → Nat
  | .off => 0
  | .quarter => 1
  | .eighth => 2
  | .sixteenth => 3

/-- HIGH 0, LOW 1 (R201): whether the active level is HIGH. -/
def activeHighOf : Nat → Option Bool
  | 0 => some true
  | 1 => some false
  | _ => none

/-- A filter width code, 0 to 7. -/
def widthCodeOf (v : Nat) : Option (Fin 8) := if h : v < 8 then some ⟨v, h⟩ else none

/-- A number from lo to hi, otherwise out of range. -/
def between (lo hi v : Nat) : Option Nat := if lo ≤ v ∧ v ≤ hi then some v else none

/-- A depth, 1, 2, 4 or 8. -/
def depthOf (v : Nat) : Option Nat := if v = 1 ∨ v = 2 ∨ v = 4 ∨ v = 8 then some v else none

/-- The configuration with one gate input's settings changed. -/
def RefConfig.withGate (c : RefConfig) (n : GateNo) (f : GateConfig → GateConfig) : RefConfig :=
  { c with gates := vmod c.gates n f }

/-- The configuration with one parameter written, none when the value is not one the parameter allows (R174, R175). -/
def RefConfig.write (c : RefConfig) (v : Nat) : Param → Option RefConfig
  | .toothCount => (between 4 240 v).map fun x => { c with toothCount := x }
  | .toothPolarity => (polarityOf v).map fun x => { c with toothPolarity := x }
  | .toothWidth => (widthCodeOf v).map fun x => { c with toothWidth := x }
  | .indexPolarity => (polarityOf v).map fun x => { c with indexPolarity := x }
  | .indexWidth => (widthCodeOf v).map fun x => { c with indexWidth := x }
  | .blanking => (between 0 127 v).map fun x => { c with blanking := x }
  | .missMargin => (between 1 15 v).map fun x => { c with missMargin := x }
  | .missLimit => (between 0 7 v).map fun x => { c with missLimit := x }
  | .holdoverLimit => (between 1 255 v).map fun x => { c with holdoverLimit := x }
  | .acquireDepth => (depthOf v).map fun x => { c with acquireDepth := x }
  | .lockedDepth => (depthOf v).map fun x => { c with lockedDepth := x }
  | .stepThreshold => (stepThresholdOf v).map fun x => { c with stepThreshold := x }
  | .cleanToLock => (between 1 15 v).map fun x => { c with cleanToLock := x }
  | .settleCycles => (between 0 7 v).map fun x => { c with settleCycles := x }
  | .noiseAllowance => (between 0 15 v).map fun x => { c with noiseAllowance := x }
  | .noisyToUnlock => (between 1 15 v).map fun x => { c with noisyToUnlock := x }
  | .indexMissLimit => (between 0 3 v).map fun x => { c with indexMissLimit := x }
  | .standstillLimit => (between 65536 16777215 v).map fun x => { c with standstillLimit := x }
  | .freeRunPeriod => (between 256 16777215 v).map fun x => { c with freeRunPeriod := x }
  | .gateLevel n => (activeHighOf v).map fun x => c.withGate n fun g => { g with activeHigh := x }
  | .gateWidth n => (widthCodeOf v).map fun x => c.withGate n fun g => { g with width := x }
  | .gateEvent n => (eventEnableOf v).map fun x => c.withGate n fun g => { g with event := x }
  | .gateTag n => (between 0 255 v).map fun x => c.withGate n fun g => { g with tag := byteOf x }

/-- The encoded value of a parameter (R201). -/
def RefConfig.read (c : RefConfig) : Param → Nat
  | .toothCount => c.toothCount
  | .toothPolarity => c.toothPolarity.code
  | .toothWidth => c.toothWidth.val
  | .indexPolarity => c.indexPolarity.code
  | .indexWidth => c.indexWidth.val
  | .blanking => c.blanking
  | .missMargin => c.missMargin
  | .missLimit => c.missLimit
  | .holdoverLimit => c.holdoverLimit
  | .acquireDepth => c.acquireDepth
  | .lockedDepth => c.lockedDepth
  | .stepThreshold => c.stepThreshold.code
  | .cleanToLock => c.cleanToLock
  | .settleCycles => c.settleCycles
  | .noiseAllowance => c.noiseAllowance
  | .noisyToUnlock => c.noisyToUnlock
  | .indexMissLimit => c.indexMissLimit
  | .standstillLimit => c.standstillLimit
  | .freeRunPeriod => c.freeRunPeriod
  | .gateLevel n => if c.gates[n].activeHigh then 0 else 1
  | .gateWidth n => c.gates[n].width.val
  | .gateEvent n => c.gates[n].event.code
  | .gateTag n => c.gates[n].tag.toNat

/-- A class A parameter differs: the tooth count, or the filter or polarity of TOOTH or INDEX (R174, R179). -/
def classAChanged (old new : RefConfig) : Bool :=
  old.toothCount != new.toothCount || old.toothPolarity != new.toothPolarity || old.toothWidth != new.toothWidth
    || old.indexPolarity != new.indexPolarity || old.indexWidth != new.indexWidth

/-! ### The inputs, the claim and the status (R197, R200) -/

/-- The three bytes of READ_INPUTS for port p (R14, R197). -/
def inputsWire (p : Port) (s : State) : List Byte :=
  [flagByte [s.eq.tooth.filtered, s.eq.index.filtered, s.eq.gates[0].filtered, s.eq.gates[1].filtered,
      s.eq.gates[2].filtered, s.eq.gates[3].filtered],
    flagByte [s.eq.active[0], s.eq.active[1], s.eq.active[2], s.eq.active[3]],
    flagByte [s.eq.latches[p][0].value, s.eq.latches[p][1].value, s.eq.latches[p][2].value,
      s.eq.latches[p][3].value]]

/-- Port p's position on the waiting list, 1 for the oldest, 0 when it is not waiting (R168, R197). -/
def ClaimController.position (c : ClaimController) (p : Port) : Nat :=
  match c.waiting.findIdx? (· == p) with
  | none => 0
  | some i => i + 1

/-- The place `i` of the waiting list as a byte, 0xFF when unused (R197). -/
def ClaimController.waiterByte (c : ClaimController) (i : Nat) : Byte := optByte c.waiting[i]?

/-- The seven bytes of READ_CLAIM for port p (R172, R197). -/
def ClaimController.wire (c : ClaimController) (p : Port) : List Byte :=
  [optByte c.holder, byteOf c.waiting.length, c.waiterByte 0, c.waiterByte 1, c.waiterByte 2,
    flagByte [c.holder == some p, c.pendingRecord.isSome], byteOf (c.position p)]

/-- The encoding of a lock state (R200). -/
def LockState.code : LockState → Byte
  | .stopped => 0
  | .search => 1
  | .acquire => 2
  | .locked => 3
  | .holdover => 4
  | .freerun => 5

/-- The standstill timer in pu as the status reports it, 0 when absent or expired (R200); a timer at the moment of its
expiry, not yet taken, still shows the limit (log entry 13). -/
def Timer.reported (limit : Nat) : Timer → Nat
  | .absent => 0
  | .running n => min n limit
  | .expired => 0

/-- The timer is present: running or expired (log entry 12). -/
def Timer.present : Timer → Bool
  | .absent => false
  | .running _ => true
  | .expired => true

/-- The tooth index byte, 0xFF while the angle is invalid (R53, R200). -/
def toothByte (s : State) : Byte := if s.ag.valid then byteOf s.ag.tooth else 0xFF

/-- The 38 bytes of the status response for port p (R77, R200). -/
def statusWire (p : Port) (s : State) : List Byte :=
  [s.ls.lock.code,
    flagByte [s.inFiring, s.ag.valid, s.ag.indexPending, s.pt.stepSeen[p].value, s.estimate.isSome,
      s.ls.standstill.present, s.ls.standstill == .expired],
    byteOf s.ls.settle, byteOf s.ls.clean, byteOf s.ls.noisy, byteOf s.ls.indexMiss, byteOf s.ls.holdover]
    ++ be24 (s.ls.standstill.reported s.cc.active.standstillLimit)
    ++ be24 (s.estimate.getD 0)
    ++ [byteOf s.pt.history.length, byteOf s.depth, toothByte s]
    ++ bytesOf16 s.ag.cycle ++ angleBytes s.angle ++ be16 s.ag.missCount
    ++ be16 s.eq.cycleNoise ++ be16 s.eq.totalNoise ++ be16 s.ag.totalMisses ++ be16 s.ag.lateTeeth
    ++ be16 s.ls.indexErrors ++ be16 s.ag.indexNoise ++ be16 s.pt.speedSteps ++ be16 s.fs.overflows

end Sys2Proof.Machine
end

