-- ==== Sys2Proof/Machine/Router.lean ====
section
/-! DEFINITION. The Event Router's shared operations: matching a record against a port's slots, delivering it to a
queue or a latest register, and posting it to all four ports (R149, R154, R155, R159). -/

namespace Sys2Proof.Machine

/-- The slot matches the record for port p under p's port mask (R154). -/
def Slot.admits (k : Slot) (p : Port) (portMask : Byte) (ev : Event) : Bool :=
  k.enabled && k.kinds.getLsbD (ev.kind.code - 1) && (!k.own || ev.owner == some p)
    && ((ev.tag ^^^ k.tag) &&& portMask &&& k.mask) == 0

/-- The first slot of port p that matches the record (R154). -/
def EventPort.takingSlot (q : EventPort) (p : Port) (ev : Event) : Option SlotNo :=
  [0, 1, 2, 3].find? fun n : SlotNo => q.slots[n].admits p q.portMask ev

/-- A record taken by a QUEUE slot: appended, or dropped at a full queue, which counts it, makes OVERFLOW pending and
removes the lost-count mark (R155, R157). -/
def EventPort.append (q : EventPort) (ev : Event) : EventPort :=
  if q.queue.length < 16 then { q with queue := q.queue ++ [ev] }
  else { q with lost := satInc8 q.lost, overflowCause := true, lostMark := false }

/-- A record stored in a latest register: fresh is set, and OVERWRITTEN as well if fresh was set; a read mark is
removed (R159, R160). -/
def LatestRegister.store (r : LatestRegister) (ev : Event) : LatestRegister :=
  ⟨some ev, true, r.fresh || r.overwritten, false⟩

/-- The record is considered for port p and delivered where its first matching slot sends it (R154). -/
def EventPort.deliver (q : EventPort) (p : Port) (ev : Event) : EventPort :=
  match q.takingSlot p ev with
  | none => q
  | some n =>
      if q.slots[n].latest then { q with latest := vmod q.latest n fun r => r.store ev }
      else q.append ev

/-- ER takes a record and considers it for all four ports (R149). -/
def post (ev : Event) (s : State) : State :=
  { s with er := Vector.ofFn fun p => s.er[p].deliver p ev }

/-- Every read mark that ER holds for a port is removed (R190). -/
def EventPort.unmark (q : EventPort) : EventPort :=
  { q with
    popMark := false
    lostMark := false
    latest := vall q.latest fun r => { r with mark := false } }

/-- The read-completion effects in ER of the marked request (R156, R157, R160). -/
def EventPort.complete (q : EventPort) : EventPort :=
  { q with
    queue := if q.popMark then q.queue.tail else q.queue
    lost := if q.lostMark then 0 else q.lost
    overflowCause := if q.lostMark then false else q.overflowCause
    latest := vall q.latest fun r => if r.mark then { r with fresh := false, overwritten := false } else r }

end Sys2Proof.Machine
end

