-- ==== Sys2Proof/Machine/TrackDriver.lean ====
section
/-! DEFINITION. The Track Driver's shared operations on a track record (R134 to R143). Levels are derived from the
record (R131, R132), so every change of the record is a change of the line in the same event. -/

namespace Sys2Proof.Machine

/-- A latch write (R137, R138). -/
def Track.drive (active : Bool) (k : Track) : Track := { k with latch := active }

/-- A window opens on the track (R139). -/
def Track.windowUp (k : Track) : Track := { k with windowCount := k.windowCount + 1 }

/-- A window on the track closes (R139). -/
def Track.windowDown (k : Track) : Track := { k with windowCount := k.windowCount - 1 }

/-- A pulse of w µs starts or restarts (R140). -/
def Track.startPulse (w : Nat) (k : Track) : Track := { k with pulse := some (4 * w) }

/-- The pulse ends (R141). -/
def Track.endPulse (k : Track) : Track := { k with pulse := none }

/-- The release of an owned track (R134): the pulse is cancelled, the settings return to their defaults, the latch takes
the default safe state and the owner becomes none. The window count is already 0. -/
def Track.release (k : Track) : Track :=
  { k with
    pulse := none
    inverted := Track.default.inverted
    safeActive := Track.default.safeActive
    keepOnLoss := Track.default.keepOnLoss
    latch := Track.default.safeActive
    owner := none }

/-- The on-loss setting applied in the loss teardown; unowned tracks are passed over (R143). -/
def Track.onLoss (k : Track) : Track :=
  if k.owner.isNone || k.keepOnLoss then k else { k with latch := k.safeActive, pulse := none }

/-- One pu of a running pulse (R141); a pulse at 0 waits for its end. -/
def Track.tick (k : Track) : Track := { k with pulse := k.pulse.map fun n => n - 1 }

/-- An operation handed to the track an entry names, nothing when it names none. -/
def onTrack (t : Option TrackNo) (f : Track → Track) (s : State) : State :=
  match t with
  | none => s
  | some k => s.modTrack k f

/-- Part 3 of the loss teardown: every owned track's on-loss setting, in track order (R143). -/
def applyOnLoss (s : State) : State := { s with td := vall s.td Track.onLoss }

/-- The release of every track of port p, in track order (R147). -/
def releaseTracksOf (p : Port) (s : State) : State :=
  { s with td := vall s.td fun k => if k.owner = some p then k.release else k }

end Sys2Proof.Machine
end

