-- ==== Sys2Proof/Machine/FiringScheduler.lean ====
section
/-! DEFINITION. The Firing Scheduler's shared operations (R104 to R130): firing a point, forced closes and removals,
tickets and deferred points, the five parts of a step, the loss teardown, the entry into HOLDOVER and the re-timing at
FREERUN_ON. `ap` applies the pending commit; a caller within an application, where none can be pending, gives `id`
(R179 part 1). -/

namespace Sys2Proof.Machine

/-! ### Event records of entries (R121 to R123) -/

/-- When and how a point acts: LATE, FORCED, the cycle and the angle its event carries. -/
structure Occasion where
  late : Bool
  forced : Bool
  cycle : Option Cycle
  angle : Option Nat
  deriving DecidableEq, Repr

/-- The event record of entry i at this occasion (R121, R123). -/
def entryEvent (kind : EventKind) (o : Occasion) (i : EntryNo) (s : State) : Event :=
  ⟨kind, o.late, o.forced, false, s.ctc.entries[i].image.tag, i.val, s.ctc.entries[i].owner, o.cycle, o.angle, s.stamp⟩

/-- The event of entry i is posted unless the entry is QUIET (R117 to R123). -/
def postEntry (kind : EventKind) (o : Occasion) (i : EntryNo) (s : State) : State :=
  if s.ctc.entries[i].image.flags.quiet then s else post (entryEvent kind o i s) s

/-! ### Removals and the spent condition (R120, R124) -/

/-- Every ticket and deferred point of entry i is removed without firing (R120, R124). -/
def removePoints (i : EntryNo) (s : State) : State :=
  { s with fs := { s.fs with
      tickets := s.fs.tickets.filter fun t => t.entry ≠ i
      deferred := s.fs.deferred.filter fun d => d.entry ≠ i } }

/-- Entry i is spent out of LIVE: its points are removed, it becomes HELD with spent set, and SPENT is posted unless it
is QUIET, with FORCED clear (R120, R122). -/
def spend (o : Occasion) (i : EntryNo) (s : State) : State :=
  postEntry .spent { o with forced := false } i
    ((removePoints i s).modEntry i fun e => { e with state := .held, spent := true })

/-! ### Firing a point (R116 to R119) -/

/-- The taken marks of a point set (R108). -/
def TakenMarks.setFor (m : TakenMarks) : Point → TakenMarks
  | .start => { m with start := true }
  | .stop => { m with stop := true }

/-- The taken mark of a point. -/
def TakenMarks.of (m : TakenMarks) : Point → Bool
  | .start => m.start
  | .stop => m.stop

/-- The point of entry i is taken (R108). -/
def markTaken (i : EntryNo) (pt : Point) (s : State) : State :=
  { s with fs := { s.fs with taken := vmod s.fs.taken i fun m => m.setFor pt } }

/-- The track action of a satisfied START of a point action (R117). -/
def startAction (im : EntryImage) (s : State) : State :=
  match im.action with
  | .note => s
  | .set => onTrack im.track (Track.drive true) s
  | .clear => onTrack im.track (Track.drive false) s
  | .pulse =>
      match im.width with
      | none => s
      | some w => onTrack im.track (Track.startPulse w) s
  | .window => s

/-- A satisfied START's marks on its entry: the last fired cycle, and the fire count less one when it is finite
(R83, R98). -/
def Entry.countStart (o : Occasion) (e : Entry) : Entry :=
  { e with lastFired := o.cycle, image := { e.image with count := e.image.count - 1 } }

/-- A GATED event for a START its gate refuses, if the entry has REPORT_GATED and not QUIET (R117, R118). -/
def refuseStart (o : Occasion) (i : EntryNo) (s : State) : State :=
  if s.ctc.entries[i].image.flags.reportGated then postEntry .gated o i s else s

/-- The START of a NOTE, SET, CLEAR or PULSE entry is fired (R117). -/
def firePointStart (o : Occasion) (i : EntryNo) (s : State) : State :=
  let e := s.ctc.entries[i]
  if gateSatisfied s e.image.gate then
    let t := (postEntry .fire o i (startAction e.image s)).modEntry i (Entry.countStart o)
    if e.image.count = 1 then spend o i t else t
  else refuseStart o i s

/-- The START of a WINDOW entry is fired (R118): dropped when the window is open, gated, or the window opens. A count
brought from 1 to 0 sets spent and leaves the entry LIVE (R99). -/
def fireWindowStart (o : Occasion) (i : EntryNo) (s : State) : State :=
  let e := s.ctc.entries[i]
  if e.windowOpen then s
  else if gateSatisfied s e.image.gate then
    (postEntry .opened o i (onTrack e.image.track Track.windowUp (s.modEntry i fun e => { e with windowOpen := true }))).modEntry i
      fun e => { e.countStart o with spent := e.spent || e.image.count == 1 }
  else refuseStart o i s

/-- The open window of entry i closes with this occasion's CLOSE event (R119, R123). -/
def closeWindow (o : Occasion) (i : EntryNo) (s : State) : State :=
  postEntry .close o i
    (onTrack s.ctc.entries[i].image.track Track.windowDown (s.modEntry i fun e => { e with windowOpen := false }))

/-- The END of a WINDOW entry is fired (R119): an open window closes, and a spent one spends its entry. -/
def fireWindowEnd (o : Occasion) (i : EntryNo) (s : State) : State :=
  if s.ctc.entries[i].windowOpen then
    if s.ctc.entries[i].spent then spend o i (closeWindow o i s) else closeWindow o i s
  else s

/-- A point is fired whole: its taken mark is set, and what its action and point ask is done. Only LIVE entries fire
(R98; log entry 19 for an entry that is not). -/
def fire (o : Occasion) (i : EntryNo) (pt : Point) (s : State) : State :=
  let t := markTaken i pt s
  if t.ctc.entries[i].state = .live then
    match t.ctc.entries[i].image.action, pt with
    | .window, .start => fireWindowStart o i t
    | .window, .stop => fireWindowEnd o i t
    | .note, .start => firePointStart o i t
    | .set, .start => firePointStart o i t
    | .clear, .start => firePointStart o i t
    | .pulse, .start => firePointStart o i t
    | .note, .stop => t
    | .set, .stop => t
    | .clear, .stop => t
    | .pulse, .stop => t
  else t

/-- A forced close of entry i's window, if it is open (R123). `spends` is false for HOLD_ENTRY, FREE_ENTRY and a
detach, which set the entry's state themselves. In a teardown into ACQUIRE while PT holds no estimate, R123 gives both
angle 0 and the interpolated angle, which is absent; the model gives absent (DESIGN CHOICE, unsafe, log entry 30). -/
def forceClose (spends : Bool) (i : EntryNo) (s : State) : State :=
  if s.ctc.entries[i].windowOpen then
    let o : Occasion := ⟨false, true, s.cycleIfValid, s.angle⟩
    if s.ctc.entries[i].spent && spends then spend o i (closeWindow o i s) else closeWindow o i s
  else s

/-! ### Tickets and deferred points (R112, R113) -/

/-- The time remaining until a due time (R112). -/
def remaining (now due : Stamp) : Nat := (due - now).toNat

/-- The order of points within an entry: END before START (R112, R113). -/
def Point.rank : Point → Nat
  | .stop => 0
  | .start => 1

/-- Ticket a comes before ticket b (R112): by due time, then by entry index, then END before START. -/
def Ticket.before (now : Stamp) (a b : Ticket) : Bool :=
  decide (remaining now a.due < remaining now b.due)
    || (remaining now a.due == remaining now b.due
      && (decide (a.entry.val < b.entry.val)
        || (a.entry == b.entry && decide (a.point.rank < b.point.rank))))

/-- A ticket joins the list at its place (R112). -/
def insertTicket (now : Stamp) (t : Ticket) : List Ticket → List Ticket
  | [] => [t]
  | u :: rest => if t.before now u then t :: u :: rest else u :: insertTicket now t rest

/-- Deferred point a comes before b: index order, END before START within an entry (R113). -/
def DeferredPoint.before (a b : DeferredPoint) : Bool :=
  decide (a.entry.val < b.entry.val) || (a.entry == b.entry && decide (a.point.rank < b.point.rank))

/-- A point joins the deferred list at its place (R113). -/
def insertDeferred (d : DeferredPoint) : List DeferredPoint → List DeferredPoint
  | [] => [d]
  | u :: rest => if d.before u then d :: u :: rest else u :: insertDeferred d rest

/-- A point goes to the deferred list; the first to join an empty list records the present cycle number (R113). -/
def defer (i : EntryNo) (pt : Point) (s : State) : State :=
  { s with fs := { s.fs with
      deferred := insertDeferred ⟨i, pt⟩ s.fs.deferred
      deferredCycle := if s.fs.deferred = [] then some s.ag.cycle else s.fs.deferredCycle } }

/-- A point that would become a ticket: it joins the ticket list, or, when the list holds 24, the deferred list with one
ticket overflow counted (R111, R113). -/
def addTicket (t : Ticket) (s : State) : State :=
  if s.fs.tickets.length < 24 then
    { s with fs := { s.fs with tickets := insertTicket s.stamp t s.fs.tickets } }
  else
    defer t.entry t.point { s with fs := { s.fs with overflows := satInc16 s.fs.overflows } }

/-- The angle of a point: START has the start angle, END the end angle of a WINDOW; no other action has an END
(R104, R111). -/
def Entry.pointAngle (e : Entry) : Point → Option Nat
  | .start => some e.image.start
  | .stop => if e.image.action = .window then e.image.stop else none

/-- The point is on the ticket list or the deferred list. -/
def onList (i : EntryNo) (pt : Point) (s : State) : Bool :=
  s.fs.tickets.any (fun t => t.entry == i && t.point == pt)
    || s.fs.deferred.any (fun d => d.entry == i && d.point == pt)

/-! ### Enumeration (R110, R111, R128) -/

/-- The entry is enumerable: LIVE, and in HOLDOVER without PAUSE (R110). -/
def enumerable (s : State) (e : Entry) : Bool :=
  e.state == .live && !(s.ls.lock == .holdover && e.image.flags.pause)

/-- The point passes the tests of R111 and R128: its angle lies in [b, stop), its taken mark is clear, it is not the
START of a spent WINDOW, and it is on neither list. -/
def pointOpen (b stop : Nat) (i : EntryNo) (pt : Point) (a : Nat) (s : State) : Bool :=
  decide (b ≤ a) && decide (a < stop) && !(s.fs.taken[i].of pt)
    && !(pt == .start && s.ctc.entries[i].image.action == .window && s.ctc.entries[i].spent)
    && !(onList i pt s)

/-- One point of an enumeration from angle b to the tooth's end with tooth period P (R111, R128): at b it fires at once,
beyond b it becomes a ticket due floor(P × (a − b) / (stop − b)) after the present moment, or is deferred where there is
no period. -/
def enumeratePoint (b stop : Nat) (period : Option Nat) (i : EntryNo) (pt : Point) (s : State) : State :=
  match s.ctc.entries[i].pointAngle pt with
  | none => s
  | some a =>
      if pointOpen b stop i pt a s then
        if a = b then fire ⟨false, false, some s.ag.cycle, s.angle⟩ i pt s
        else
          match period with
          | none => defer i pt s
          | some p =>
              addTicket ⟨i, pt, s.stamp + BitVec.ofNat 24 (p * (a - b) / (stop - b)), s.ag.cycle⟩ s
      else s

/-- One entry of an enumeration, END before START (R111). -/
def enumerateEntry (b stop : Nat) (period : Option Nat) (s : State) (i : EntryNo) : State :=
  if enumerable s s.ctc.entries[i] then
    enumeratePoint b stop period i .start (enumeratePoint b stop period i .stop s)
  else s

/-- The 64 entry numbers in index order. -/
def allEntries : List EntryNo := List.finRange 64

/-- The enumerable entries are enumerated in index order; P is read once, when the enumeration begins (R104, R111). -/
def enumerate (b stop : Nat) (s : State) : State :=
  allEntries.foldl (enumerateEntry b stop s.period) s

/-! ### A step at the scheduler (R105 to R110) -/

/-- Part 1: every ticket still on the list is fired LATE, in list order (R106). -/
def flushTickets (angle : Nat) : Nat → State → State
  | 0, s => s
  | fuel + 1, s =>
      match s.fs.tickets with
      | [] => s
      | t :: rest =>
          flushTickets angle fuel
            (fire ⟨true, false, some t.cycle, some angle⟩ t.entry t.point
              { s with fs := { s.fs with tickets := rest } })

/-- The deferred points are fired LATE in list order, with the cycle the list recorded (R107). -/
def fireDeferred (angle : Nat) (cycle : Option Cycle) : Nat → State → State
  | 0, s => s
  | fuel + 1, s =>
      match s.fs.deferred with
      | [] => s
      | d :: rest =>
          fireDeferred angle cycle fuel
            (fire ⟨true, false, cycle, some angle⟩ d.entry d.point { s with fs := { s.fs with deferred := rest } })

/-- Part 2: the deferred list is fired and emptied (R107); an empty list records no cycle (log entry 23). -/
def flushDeferred (angle : Nat) (s : State) : State :=
  let t := fireDeferred angle s.fs.deferredCycle s.fs.deferred.length s
  { t with fs := { t.fs with deferred := [], deferredCycle := none } }

/-- Part 3: a new cycle number clears all taken marks and becomes the cycle seen (R108). -/
def clearTaken (cycle : Cycle) (s : State) : State :=
  if cycle = s.fs.cycleSeen then s
  else { s with fs := { s.fs with taken := Vector.replicate 64 ⟨false, false⟩, cycleSeen := cycle } }

/-- Every ARMING entry becomes LIVE (R91). -/
def activateArming (s : State) : State :=
  { s with ctc := { s.ctc with
      entries := vall s.ctc.entries fun e => if e.state = .arming then { e with state := .live } else e } }

/-- Part 4: at a tooth-0 step in the firing set the ARMING entries become LIVE and a pending commit is applied (R109). -/
def stepActivation (ap : State → State) (rep : StepReport) (s : State) : State :=
  if rep.tooth = 0 && s.inFiring then ap (activateArming s) else s

/-- Part 5: the tooth the step entered is enumerated, if the state is in the firing set (R110). -/
def stepEnumeration (rep : StepReport) (s : State) : State :=
  if s.inFiring then
    enumerate (toothAngle s.cc.active.toothCount rep.tooth) (toothAngle s.cc.active.toothCount (rep.tooth + 1)) s
  else s

/-- FS handles a step in five parts, each finished before the next begins (R105). -/
def schedulerStep (ap : State → State) (rep : StepReport) (s : State) : State :=
  let angle := toothAngle s.cc.active.toothCount rep.tooth
  stepEnumeration rep
    (stepActivation ap rep (clearTaken rep.cycle (flushDeferred angle (flushTickets angle s.fs.tickets.length s))))

/-! ### The loss teardown and the entry into HOLDOVER (R125, R127) -/

/-- Part 1 of the teardown: tickets and deferred points are discarded (R125). -/
def discardLists (s : State) : State :=
  { s with fs := { s.fs with tickets := [], deferred := [], deferredCycle := none } }

/-- Part 2 of the teardown: every open window is force-closed, in index order (R125). -/
def forceCloseAll (s : State) : State := allEntries.foldl (fun t i => forceClose true i t) s

/-- The loss teardown in its five parts (R125). -/
def teardown (ap : State → State) (s : State) : State :=
  ap (activateArming (applyOnLoss (forceCloseAll (discardLists s))))

/-- The entry is LIVE with PAUSE (R127). -/
def Entry.pausing (e : Entry) : Bool := e.state == .live && e.image.flags.pause

/-- FS treats the entry into HOLDOVER: the points of LIVE PAUSE entries are removed, then their open windows are
force-closed, each in index order (R127). -/
def holdoverDiscard (s : State) : State :=
  let t := allEntries.foldl (fun t i => if t.ctc.entries[i].pausing then removePoints i t else t) s
  allEntries.foldl (fun t i => if t.ctc.entries[i].pausing then forceClose true i t else t) t

/-! ### FREERUN_ON at the scheduler (R128) -/

/-- A ticket's point lies below b. -/
def ticketBelow (b : Nat) (s : State) (t : Ticket) : Bool :=
  match s.ctc.entries[t.entry].pointAngle t.point with
  | none => false
  | some a => decide (a < b)

/-- Part 1: every ticket whose point lies below b is fired at once, in list order, LATE, at angle b (R128). -/
def firePassed (b : Nat) : Nat → State → State
  | 0, s => s
  | fuel + 1, s =>
      match s.fs.tickets.find? (ticketBelow b s) with
      | none => s
      | some t =>
          firePassed b fuel
            (fire ⟨true, false, some t.cycle, some b⟩ t.entry t.point
              { s with fs := { s.fs with tickets := s.fs.tickets.erase t } })

/-- The new due time of a ticket whose point lies at or above b (R128). -/
def retimed (b stop period : Nat) (s : State) (t : Ticket) : Ticket :=
  match s.ctc.entries[t.entry].pointAngle t.point with
  | none => t
  | some a => { t with due := s.stamp + BitVec.ofNat 24 (period * (a - b) / (stop - b)) }

/-- Part 2: the remaining tickets are re-timed and the list reordered (R128). -/
def retimeTickets (b stop period : Nat) (s : State) : State :=
  { s with fs := { s.fs with
      tickets := s.fs.tickets.foldl (fun l t => insertTicket s.stamp (retimed b stop period s t) l) [] } }

/-- FS acts at FREERUN_ON on the tooth in progress from its new base angle (R128). -/
def freerunRetime (s : State) : State :=
  let b := s.ag.base
  let stop := s.toothEnd
  enumerate b stop (retimeTickets b stop s.cc.active.freeRunPeriod (firePassed b s.fs.tickets.length s))

end Sys2Proof.Machine
end

