-- ==== Sys2Proof/Machine/Reference.lean ====
section
/-! DEFINITION. The reference path: what the Period Tracker, the Lock Supervisor, the Angle Generator, the Edge
Qualifier and the Claim Controller do with edges, steps, transitions and applied commits (R4 to R13, R17 to R28, R35 to
R76, R179, R180). A departure from the firing set hands FS the loss teardown, which applies a pending commit; `ap` is
that application, and a caller within an application, where none can be pending any more, gives `id` (R179 part 1). -/

namespace Sys2Proof.Machine

/-! ### Period Tracker (R17 to R25) -/

/-- The newest `depth` intervals of a history (R19, R22). -/
def newest (depth : Nat) (history : List Nat) : List Nat := history.drop (history.length - depth)

/-- A flush empties the history; the estimate becomes absent (R24). -/
def flushHistory (s : State) : State := { s with pt := { s.pt with history := [] } }

/-- A trim to a depth (R22, R23). -/
def trimHistory (depth : Nat) (s : State) : State := { s with pt := { s.pt with history := newest depth s.pt.history } }

/-- The interval is a speed step against the estimate (R20). -/
def isSpeedStep (c : RefConfig) (estimate : Option Nat) (interval : Nat) : Bool :=
  match estimate, c.stepThreshold.denominator with
  | some e, some d => decide (e < (max interval e - min interval e) * d)
  | some _, none => false
  | none, _ => false

/-- A closed interval is tested and taken into the history (R19, R20). -/
def takeInterval (interval : Nat) (s : State) : State :=
  if isSpeedStep s.cc.active s.estimate interval then
    { s with pt := { s.pt with
        history := [interval]
        speedSteps := satInc16 s.pt.speedSteps
        stepSeen := Vector.replicate 4 ⟨true, false⟩ } }
  else
    { s with pt := { s.pt with history := newest s.depth (s.pt.history ++ [interval]) } }

/-- The interval that a gap of n pu gives. R17 says it lies between 1 and the standstill limit; a gap of 0 pu, two real
edges in one pu, has no stated interval, so it is a free value within those bounds (log entry 10). -/
def closeInterval (n : Nat) (s : State) : State :=
  if n = 0 then
    takeInterval (1 + Config.freeInterval s.freeCount % s.cc.active.standstillLimit) { s with freeCount := s.freeCount + 1 }
  else takeInterval n s

/-- What PT does with the interval a real edge ends, by the table of R17. -/
def measureEdge (s : State) : State :=
  match s.pt.lastEdge with
  | none => s
  | some _ =>
      if s.pt.gap.over s.cc.active.standstillLimit then flushHistory s
      else if s.ag.synthSinceReal then s
      else
        match s.pt.gap with
        | .running n => closeInterval n s
        | .absent => s
        | .expired => s

/-- PT takes a real edge (R17). -/
def trackEdge (s : State) : State :=
  let t := measureEdge s
  { t with pt := { t.pt with lastEdge := some t.stamp, gap := .running 0 } }

/-! ### Transitions of the lock state (R56, R66, R68, R69) -/

/-- The lock state becomes l: PT takes the depth it selects and trims if that is lower (R22), and a change sets the LOCK
cause (R76). For FREERUN with DL below DA, R31 ("FREERUN_ON keeps the history as it is") and R22, which R70 cites, differ;
the model trims (DESIGN CHOICE, unsafe, log entry 29). -/
def moveLock (l : LockState) (s : State) : State :=
  let t : State := { s with ls := { s.ls with lock := l } }
  let u := if depthFor s.cc.active l < depthFor s.cc.active s.ls.lock then trimHistory (depthFor s.cc.active l) t else t
  if l = s.ls.lock then u else setLockCause u

/-- AG's part of a transition into STOPPED or SEARCH (R37). -/
def invalidateAngle (s : State) : State :=
  { s with ag := { s.ag with
      valid := false
      tooth := 0
      base := 0
      indexPending := false
      deadline := none
      lateWindow := none
      missCount := 0
      freeRunning := false } }

/-- EQ's part of a transition into STOPPED or SEARCH and of a class A commit (R8). -/
def clearCycleNoise (s : State) : State := { s with eq := { s.eq with cycleNoise := 0, window := none } }

/-- LS's part of a transition into STOPPED or SEARCH (R68). -/
def clearJudgement (s : State) : State :=
  { s with ls := { s.ls with clean := 0, noisy := 0, indexMiss := 0, settle := 0, synthInCycle := false } }

/-- The effects of every transition into l, STOPPED or SEARCH, but for the timer and the teardown (R68). -/
def fall (l : LockState) (s : State) : State :=
  moveLock l (clearCycleNoise (flushHistory (invalidateAngle (clearJudgement s))))

/-- The standstill timer set. -/
def setStandstill (t : Timer) (s : State) : State := { s with ls := { s.ls with standstill := t } }

/-- An entry into SEARCH or ACQUIRE that finds the timer expired goes on to STOPPED in the same event (R58). -/
def goOnToStopped (s : State) : State :=
  if (s.ls.lock = .search ∨ s.ls.lock = .acquire) ∧ s.ls.standstill = .expired then fall .stopped s else s

/-- The teardown, if the transition left the firing set (R56). -/
def departFrom (ap : State → State) (before : State) (s : State) : State :=
  if before.inFiring then teardown ap s else s

/-- An entry into SEARCH that finds the timer absent starts it at 0 (R58). -/
def startStandstill (s : State) : State := if s.ls.standstill = .absent then setStandstill (.running 0) s else s

/-- The transition into SEARCH (R58, R68), with the teardown before the timer is looked at (log entry 18). -/
def enterSearch (ap : State → State) (s : State) : State :=
  goOnToStopped (departFrom ap s (startStandstill (fall .search s)))

/-- The transition into ACQUIRE (R69). -/
def enterAcquire (ap : State → State) (s : State) : State :=
  goOnToStopped (departFrom ap s
    (moveLock .acquire { s with ls := { s.ls with clean := 0, settle := 0, synthInCycle := false } }))

/-- The transition into LOCKED with settle remaining c (R65). -/
def enterLocked (c : Nat) (s : State) : State := moveLock .locked { s with ls := { s.ls with settle := c } }

/-- The transition from LOCKED into HOLDOVER (R66), handed on to FS (R127). -/
def enterHoldover (s : State) : State :=
  holdoverDiscard (moveLock .holdover { s with ls := { s.ls with settle := 0, holdover := 0 } })

/-- The reference restart: the effects of entry into STOPPED, the timer absent and every block's own restart effects,
and then the loss teardown if the state was in the firing set (R27, R55, R68, R73; log entry 14). -/
def restart (ap : State → State) (s : State) : State :=
  let t := setStandstill .absent (fall .stopped s)
  departFrom ap s
    { t with
      pt := { t.pt with lastEdge := none, gap := .absent }
      ag := { t.ag with synthSinceReal := false } }

/-- The expiry of the standstill timer, by the lock state (R58). -/
def standstillExpires (ap : State → State) (s : State) : State :=
  let t := setStandstill .expired s
  match s.ls.lock with
  | .search => fall .stopped t
  | .acquire => fall .stopped t
  | .locked => if s.ag.deadline = none then enterSearch ap t else t
  | .holdover => if s.ag.deadline = none then enterSearch ap t else t
  | .stopped => t
  | .freerun => t

/-! ### Judging steps (R59 to R67) -/

/-- The cycle a tooth-0 step closes is clean (R60). -/
def cycleClean (rep : StepReport) (s : State) : Bool :=
  rep.finding == .matched && !s.ls.synthInCycle && decide (s.ls.closingNoise ≤ s.cc.active.noiseAllowance)

/-- The cycle a tooth-0 step closes is noisy (R60). -/
def cycleNoisy (s : State) : Bool := decide (s.cc.active.noiseAllowance < s.ls.closingNoise)

/-- The index-miss streak after a judgement (R60). -/
def indexMissAfter (finding : Finding) (n : Nat) : Nat :=
  match finding with
  | .matched => 0
  | .miss => satInc8 n
  | .mismatch => n
  | .align => n
  | .unchecked => n

/-- The judgement of the cycle that a tooth-0 step closes; the synthesized-in-cycle flag is then clear for the cycle it
opens (R59, R60). -/
def judgeCycle (rep : StepReport) (s : State) : State :=
  { s with ls := { s.ls with
      clean := if cycleClean rep s then satInc8 s.ls.clean else 0
      noisy := if cycleClean rep s then 0 else if cycleNoisy s then satInc8 s.ls.noisy else s.ls.noisy
      indexMiss := indexMissAfter rep.finding s.ls.indexMiss
      indexErrors := if rep.finding = .mismatch then satInc16 s.ls.indexErrors else s.ls.indexErrors
      synthInCycle := false } }

/-- A SYNTH step sets the synthesized-in-cycle flag (R59). -/
def noteSynth (rep : StepReport) (s : State) : State :=
  if rep.kind = .synth then { s with ls := { s.ls with synthInCycle := true } } else s

/-- The judgement, at a tooth-0 step alone (R60). -/
def judgeStep (rep : StepReport) (s : State) : State := if rep.tooth = 0 then judgeCycle rep s else s

/-- A step judged in ACQUIRE (R63). -/
def stepInAcquire (ap : State → State) (rep : StepReport) (s : State) : State :=
  let t := judgeStep rep (noteSynth rep s)
  if rep.kind = .synth ∧ s.cc.active.missLimit < rep.missCount then enterSearch ap t
  else if rep.tooth = 0 ∧ s.cc.active.cleanToLock ≤ t.ls.clean then enterLocked s.cc.active.settleCycles t
  else t

/-- A tooth-0 step that leaves the state LOCKED counts down the settle; reaching 0 sets the LOCK cause (R65, R76). -/
def countSettle (s : State) : State :=
  if s.ls.settle = 0 then s
  else
    let t : State := { s with ls := { s.ls with settle := s.ls.settle - 1 } }
    if s.ls.settle = 1 then setLockCause t else t

/-- A step judged in LOCKED (R64, R65). -/
def stepInLocked (ap : State → State) (rep : StepReport) (s : State) : State :=
  let t := judgeStep rep (noteSynth rep s)
  if rep.tooth = 0 ∧ (rep.finding = .mismatch ∨ s.cc.active.indexMissLimit < t.ls.indexMiss
      ∨ s.cc.active.noisyToUnlock ≤ t.ls.noisy) then enterAcquire ap t
  else if rep.kind = .synth ∧ s.cc.active.missLimit < rep.missCount then enterHoldover t
  else if rep.tooth = 0 then countSettle t
  else t

/-- A SYNTH step in HOLDOVER adds one to the holdover count (R67). -/
def countHoldover (rep : StepReport) (s : State) : State :=
  if rep.kind = .synth then { s with ls := { s.ls with holdover := satInc8 s.ls.holdover } } else s

/-- A step judged in HOLDOVER (R67). -/
def stepInHoldover (ap : State → State) (rep : StepReport) (s : State) : State :=
  let t := judgeStep rep (countHoldover rep (noteSynth rep s))
  if rep.kind = .synth ∧ s.cc.active.holdoverLimit ≤ t.ls.holdover then enterSearch ap t
  else if rep.tooth = 0 ∧ rep.finding = .mismatch then enterAcquire ap t
  else if rep.tooth = 0 ∧ rep.kind = .real ∧ rep.finding = .matched then enterLocked 0 t
  else t

/-- LS judges a step (R61 to R67, R71). -/
def supervise (ap : State → State) (rep : StepReport) (s : State) : State :=
  match s.ls.lock with
  | .stopped => s
  | .search => if rep.finding = .align then enterAcquire ap s else s
  | .acquire => stepInAcquire ap rep s
  | .locked => stepInLocked ap rep s
  | .holdover => stepInHoldover ap rep s
  | .freerun => s

/-- At a tooth-0 step EQ hands the cycle noise count to LS and starts it again at 0 (R7, R59). -/
def handOverNoise (rep : StepReport) (s : State) : State :=
  if rep.tooth = 0 then
    { s with
      ls := { s.ls with closingNoise := s.eq.cycleNoise }
      eq := { s.eq with cycleNoise := 0 } }
  else s

/-- A step is handed on in its fixed order: EQ at a tooth-0 step, then LS, last of all FS (R35). -/
def handStep (ap : State → State) (rep : StepReport) (s : State) : State :=
  schedulerStep ap rep (supervise ap rep (handOverNoise rep s))

/-! ### Angle Generator (R35 to R52) -/

/-- The miss deadline after a REAL step or a late acceptance, and after a SYNTH step (R40). -/
def deadlineFor (kind : StepKind) (margin estimate : Nat) : Nat :=
  match kind with
  | .real => min (estimate * (16 + margin) / 16) maxPu
  | .free => min (estimate * (16 + margin) / 16) maxPu
  | .synth => min estimate maxPu

/-- AG sets the miss deadline, if the angle is valid, the state is not FREERUN and an estimate exists (R40). -/
def setDeadline (kind : StepKind) (s : State) : State :=
  { s with ag := { s.ag with
      deadline :=
        if s.ag.valid && s.ls.lock != .freerun then s.estimate.map (deadlineFor kind s.cc.active.missMargin) else none } }

/-- The index check of a step from the present tooth, with the tooth it goes to and its finding (R46, R47). -/
def indexCheck (s : State) : Nat × Finding :=
  let k := nextTooth s.cc.active.toothCount s.ag.tooth
  if s.ag.indexPending then (if k = 0 then (0, .matched) else (0, .mismatch))
  else (k, if k = 0 then .miss else .unchecked)

/-- A tooth begins now: tooth index, start time, timer, base angle, and the cycle number, which goes up at a step to
tooth 0 made while the angle is valid (R36, R39). -/
def beginTooth (k : Nat) (s : State) : State :=
  { s with ag := { s.ag with
      tooth := k
      cycle := if k = 0 && s.ag.valid then s.ag.cycle + 1 else s.ag.cycle
      toothStart := s.stamp
      timer := 0
      base := toothAngle s.cc.active.toothCount k } }

/-- The report of the step that has just begun a tooth (R35). -/
def stepReport (kind : StepKind) (finding : Finding) (s : State) : StepReport :=
  ⟨kind, s.ag.tooth, s.ag.cycle, s.ag.toothStart, s.ag.missCount, finding⟩

/-- A real edge makes or anchors a tooth: no misses, no late window, a new deadline (R39, R43). -/
def anchorReal (s : State) : State :=
  setDeadline .real { s with ag := { s.ag with missCount := 0, lateWindow := none } }

/-- A REAL step (R39, R46, R47). -/
def realStep (ap : State → State) (s : State) : State :=
  let c := indexCheck s
  let t := beginTooth c.1 s
  let u := anchorReal { t with ag := { t.ag with indexPending := false } }
  handStep ap (stepReport .real c.2 u) u

/-- The REAL step with finding ALIGN, which makes the angle valid and leaves the cycle number (R36, R46). -/
def alignStep (ap : State → State) (s : State) : State :=
  let t := beginTooth 0 { s with ag := { s.ag with valid := false } }
  let u := anchorReal { t with ag := { t.ag with indexPending := false, valid := true } }
  handStep ap (stepReport .real .align u) u

/-- Late acceptance: the edge anchors the synthesized tooth, and no step is made (R43). -/
def lateAcceptance (s : State) : State :=
  anchorReal { s with ag := { s.ag with toothStart := s.stamp, timer := 0, lateTeeth := satInc16 s.ag.lateTeeth } }

/-- The late window that a SYNTH step opens, absent where floor(E / 2) is 0 (R41). -/
def lateWindowFor : Option Nat → Option Nat
  | none => none
  | some e => if e / 2 = 0 then none else some (e / 2)

/-- A SYNTH step at the expiry of the miss deadline (R41, R46, R47). -/
def synthStep (ap : State → State) (s : State) : State :=
  let c := indexCheck s
  let t := beginTooth c.1 s
  let u := setDeadline .synth { t with ag := { t.ag with
    indexPending := false
    missCount := satInc16 t.ag.missCount
    totalMisses := satInc16 t.ag.totalMisses
    synthSinceReal := true
    lateWindow := lateWindowFor s.estimate } }
  handStep ap (stepReport .synth c.2 u) u

/-- A FREE step of the free-run generator (R51). -/
def freeRunStep (ap : State → State) (s : State) : State :=
  let u := beginTooth (nextTooth s.cc.active.toothCount s.ag.tooth) s
  handStep ap (stepReport .free .unchecked u) u

/-- The notice of a real edge: the standstill timer restarts, and STOPPED goes to SEARCH (R57). -/
def realEdgeNotice (s : State) : State :=
  let t := setStandstill (.running 0) s
  if s.ls.lock = .stopped then fall .search t else t

/-- The late window is present and the tooth timer below it (R38, R43). -/
def inLateWindow (s : State) : Bool :=
  match s.ag.lateWindow with
  | none => false
  | some w => decide (s.ag.timer < w)

/-- AG takes a real edge: the notice, the flag, and then by the lock state it found (R38, R52). -/
def generatorEdge (ap : State → State) (s : State) : State :=
  let n := realEdgeNotice s
  let t : State := { n with ag := { n.ag with synthSinceReal := false } }
  match s.ls.lock with
  | .stopped => t
  | .search => if s.ag.indexPending then alignStep ap t else t
  | .acquire => if inLateWindow s then lateAcceptance t else realStep ap t
  | .locked => if inLateWindow s then lateAcceptance t else realStep ap t
  | .holdover => if inLateWindow s then lateAcceptance t else realStep ap t
  | .freerun => t

/-- AG takes an index arrival (R45). -/
def indexArrival (s : State) : State :=
  match s.ls.lock with
  | .stopped => s
  | .freerun => s
  | .search => arrive s
  | .acquire => arrive s
  | .locked => arrive s
  | .holdover => arrive s
where
  /-- Index-pending is set, or an extra index is counted. -/
  arrive (s : State) : State :=
    if s.ag.indexPending then { s with ag := { s.ag with indexNoise := satInc16 s.ag.indexNoise } }
    else { s with ag := { s.ag with indexPending := true } }

/-! ### Edge Qualifier (R4 to R13) -/

/-- A real edge opens a new blanking window of floor(E × B / 128) pu, or leaves it absent (R6). -/
def openBlanking (s : State) : State :=
  { s with eq := { s.eq with
      window :=
        match s.estimate with
        | none => none
        | some e => if e * s.cc.active.blanking / 128 = 0 then none else some ⟨s.stamp, e * s.cc.active.blanking / 128⟩ } }

/-- A noise edge adds one to both counts (R7). -/
def noiseEdge (s : State) : State :=
  { s with eq := { s.eq with cycleNoise := satInc16 s.eq.cycleNoise, totalNoise := satInc16 s.eq.totalNoise } }

/-- A TOOTH edge is classed: noise within the blanking window, otherwise real, for PT, the window and AG in that order
(R5, R6). -/
def toothEdge (ap : State → State) (s : State) : State :=
  if inBlanking s then noiseEdge s else generatorEdge ap (openBlanking (trackEdge s))

/-- The INPUT event record of a change of Gn (R12). -/
def inputEvent (n : GateNo) (s : State) : Event :=
  ⟨.input, false, false, s.eq.active[n], s.cc.active.gates[n].tag, n.val, none, s.cycleIfValid, s.angle, s.stamp⟩

/-- The active state of Gn has changed: every port's latch is set and unmarked, and an INPUT event is posted if the event
enable matches (R11, R14). -/
def gateChanged (n : GateNo) (s : State) : State :=
  let t : State := { s with eq := { s.eq with
    latches := vall s.eq.latches fun l => vmod l n fun _ => ⟨true, false⟩ } }
  if s.cc.active.gates[n].event.admits s.eq.active[n] then post (inputEvent n t) t else t

/-- The active state that Gn's filtered level and active level give (R10). -/
def gateActiveNow (s : State) (n : GateNo) : Bool := s.eq.gates[n].filtered == s.cc.active.gates[n].activeHigh

/-- The active state of Gn is re-evaluated (R10, R11). -/
def reevaluateGate (n : GateNo) (s : State) : State :=
  if gateActiveNow s n = s.eq.active[n] then s
  else gateChanged n { s with eq := { s.eq with active := vmod s.eq.active n fun _ => gateActiveNow s n } }

/-- One line's filter changed. -/
def setLine (line : LineId) (f : FilterLine → FilterLine) (s : State) : State :=
  match line with
  | .tooth => { s with eq := { s.eq with tooth := f s.eq.tooth } }
  | .index => { s with eq := { s.eq with index := f s.eq.index } }
  | .gate n => { s with eq := { s.eq with gates := vmod s.eq.gates n f } }

/-- The filtered level takes the raw level and no run remains (R2). -/
def settleLine (line : LineId) (s : State) : State := setLine line (fun l => ⟨l.raw, l.raw, none⟩) s

/-- What follows a filtered transition of TOOTH or INDEX, judged against the polarity in force (R4, R9). -/
def edgeArrives (ap : State → State) (line : LineId) (s : State) : State :=
  match line with
  | .tooth => if s.cc.active.toothPolarity.accepts s.eq.tooth.filtered then toothEdge ap s else s
  | .index => if s.cc.active.indexPolarity.accepts s.eq.index.filtered then indexArrival s else s
  | .gate _ => s

/-- One filtered transition of a line (R2): TOOTH and INDEX by polarity, a gate input by its active state. -/
def filteredTransition (ap : State → State) (line : LineId) (s : State) : State :=
  match line with
  | .gate n => reevaluateGate n (settleLine (.gate n) s)
  | .tooth => edgeArrives ap .tooth (settleLine .tooth s)
  | .index => edgeArrives ap .index (settleLine .index s)

/-! ### Applying a record (R3, R13, R179) -/

/-- The class A effects in LS and AG by the lock state (R74); LS acts after EQ and PT. -/
def classALock (s : State) : State :=
  match s.ls.lock with
  | .stopped => setStandstill .absent { s with ls := { s.ls with clean := 0, noisy := 0, indexMiss := 0 } }
  | .search => setStandstill (.running 0) (fall .search s)
  | .acquire => departFrom id s (setStandstill (.running 0) (fall .search s))
  | .locked => departFrom id s (setStandstill (.running 0) (fall .search s))
  | .holdover => departFrom id s (setStandstill (.running 0) (fall .search s))
  | .freerun =>
      let t := setStandstill .absent { s with ls := { s.ls with clean := 0, noisy := 0, indexMiss := 0 } }
      { t with ag := { t.ag with tooth := 0, base := 0 } }

/-- The class A effects: EQ (R8), PT (R26), then LS and AG (R74, R51). -/
def classAEffects (s : State) : State :=
  let t := flushHistory (clearCycleNoise s)
  classALock { t with pt := { t.pt with lastEdge := none, gap := .absent } }

/-- The class B effect: the depth in force is re-evaluated, and the history trimmed if it falls (R23). -/
def reevaluateDepth (old : RefConfig) (s : State) : State :=
  if depthFor s.cc.active s.ls.lock < depthFor old s.ls.lock then trimHistory s.depth s else s

/-- PT and LS judge their counts against the standstill limit now in force (R18, R58). -/
def judgeStandstillLimit (s : State) : State :=
  let t : State := { s with pt := { s.pt with gap := s.pt.gap.judge s.cc.active.standstillLimit } }
  if t.ls.standstill.due s.cc.active.standstillLimit then standstillExpires id t else t

/-- All six lines. -/
def allLines : List LineId := [.tooth, .index, .gate 0, .gate 1, .gate 2, .gate 3]

/-- A run that the new width requires expires at the application; a gate input's active state waits for its one
re-evaluation (R3, R13). -/
def expireAtApplication (s : State) (line : LineId) : State :=
  if runDue line s then edgeArrives id line (settleLine line s) else s

/-- EQ's class C effects: the runs of the lines whose width changed, in a free order (R3), then each gate input whose
active state differs, in a free order (R13; log entry 11). -/
def requalify (old : RefConfig) (s : State) : State :=
  let lines := allLines.filter fun l => s.cc.active.widthCode l != old.widthCode l && runDue l s
  let t := (freeOrder lines.length s.freeCount lines).foldl expireAtApplication
    { s with freeCount := s.freeCount + lines.length }
  let gates := [0, 1, 2, 3].filter fun n : GateNo => gateActiveNow t n != t.eq.active[n]
  (freeOrder gates.length t.freeCount gates).foldl (fun u n => reevaluateGate n u)
    { t with freeCount := t.freeCount + gates.length }

/-- Parts 2 to 4 of an application, for a record that changes some parameter (R179). A free-run period that the tooth
timer already reaches makes FREE_STEP due at this moment (R51; log entry 16). -/
def carryOutChange (old new : RefConfig) (s : State) : State :=
  let t := if classAChanged old new then classAEffects s else s
  let u := if old.acquireDepth ≠ new.acquireDepth ∨ old.lockedDepth ≠ new.lockedDepth then reevaluateDepth old t else t
  let v := if old.standstillLimit ≠ new.standstillLimit then judgeStandstillLimit u else u
  requalify old v

/-- Part 5 of an application: the holder's staged copy and CLAIM cause (R179). -/
def tellHolder (s : State) : State :=
  match s.cc.holder with
  | none => s
  | some h => setClaimCause h { s with cc := { s.cc with staged := some s.cc.active } }

/-- A record is applied in five parts, each finished before the next begins (R179). -/
def applyRecord (new : RefConfig) (s : State) : State :=
  let t : State := { s with cc := { s.cc with active := new, pendingRecord := none } }
  tellHolder (if new = s.cc.active then t else carryOutChange s.cc.active new t)

/-- The pending commit is applied, if one is present (R180). -/
def applyPending (s : State) : State :=
  match s.cc.pendingRecord with
  | none => s
  | some r => applyRecord r s

/-! ### FREERUN_ON (R50, R70, R128) -/

/-- LS takes the state to FREERUN, AG starts the free-run generator, and FS acts on the tooth in progress, or AG makes
its immediate FREE step. The base angle is the interpolated angle that stands before the transition (log entry 15). -/
def startFreeRun (s : State) : State :=
  let m := moveLock .freerun { s with ls := { s.ls with settle := 0, synthInCycle := false } }
  let t : State := { m with ag := { m.ag with
    indexPending := false
    deadline := none
    lateWindow := none
    missCount := 0
    freeRunning := true } }
  if s.ag.valid then
    freerunRetime { t with ag := { t.ag with
      base := s.angle.getD (toothAngle s.cc.active.toothCount s.ag.tooth)
      toothStart := s.stamp
      timer := 0 } }
  else
    let u := beginTooth 0 { t with ag := { t.ag with valid := true } }
    handStep applyPending (stepReport .free .unchecked u) u

end Sys2Proof.Machine
end

