-- ==== Sys2Proof/Machine/PortRequests.lean ====
section
/-! DEFINITION. What each request makes its owning block do and answer (R187, R191): READ_INPUTS, READ_STATUS, NOP, the
reference requests, the cam table, the tracks, event delivery, the claim and the shared configuration, DETACH. Each
function takes the request's operands and gives the state after it and the reply. -/

namespace Sys2Proof.Machine

/-! ### Reading (R14, R77, R192) -/

/-- NOP (R192): the attention summary and the frame-error count. -/
def actNop (p : Port) (s : State) : State × Reply :=
  (s, ⟨.ok, [byteOf (summaryOf (s.effectiveCauses p)), byteOf s.pi[p].frameErrors]⟩)

/-- READ_STATUS (R29, R76, R77): the response, and marks for a pending LOCK cause and a set step-seen indication. -/
def actReadStatus (p : Port) (s : State) : State × Reply :=
  ({ s with
      ls := { s.ls with lockMarks := vmod s.ls.lockMarks p fun m => m || s.er[p].lockCause }
      pt := { s.pt with stepSeen := vmod s.pt.stepSeen p fun m => { m with mark := m.mark || m.value } } },
    ⟨.ok, statusWire p s⟩)

/-- READ_INPUTS (R14): the response, and a mark on each latch it reports as set. -/
def actReadInputs (p : Port) (s : State) : State × Reply :=
  ({ s with eq := { s.eq with
      latches := vmod s.eq.latches p fun l => vall l fun m => { m with mark := m.mark || m.value } } },
    ⟨.ok, inputsWire p s⟩)

/-! ### Requests on the reference (R70, R72, R73, R78, R173) -/

/-- A holder-only request from a port that is not the holder gives DENIED before any other check (R173). -/
def holderOnly (p : Port) (s : State) (r : State × Reply) : State × Reply :=
  if s.cc.holder = some p then r else (s, Reply.bare .denied)

/-- FREERUN_ON (R70). -/
def actFreerunOn (p : Port) (s : State) : State × Reply := holderOnly p s (startFreeRun s, Reply.bare .ok)

/-- FREERUN_OFF (R72): STATE outside FREERUN. -/
def actFreerunOff (p : Port) (s : State) : State × Reply :=
  holderOnly p s
    (if s.ls.lock = .freerun then (enterSearch applyPending s, Reply.bare .ok) else (s, Reply.bare .state))

/-- RESTART_REFERENCE (R73). -/
def actRestartReference (p : Port) (s : State) : State × Reply :=
  holderOnly p s (restart applyPending s, Reply.bare .ok)

/-- CLEAR_COUNTERS (R78): the seven reference counters become 0. -/
def actClearCounters (p : Port) (s : State) : State × Reply :=
  holderOnly p s
    ({ s with
        eq := { s.eq with totalNoise := 0 }
        ag := { s.ag with totalMisses := 0, lateTeeth := 0, indexNoise := 0 }
        ls := { s.ls with indexErrors := 0 }
        pt := { s.pt with speedSteps := 0 }
        fs := { s.fs with overflows := 0 } },
      Reply.bare .ok)

/-! ### The cam table (R85 to R97) -/

/-- The FREE entry with the lowest index (R85). -/
def lowestFree (s : State) : Option EntryNo := allEntries.find? fun i => s.ctc.entries[i].state == .free

/-- Port p's owned count changed. -/
def modOwned (p : Port) (f : Nat → Nat) (s : State) : State :=
  { s with ctc := { s.ctc with owned := vmod s.ctc.owned p f } }

/-- ALLOC_ENTRY (R85). -/
def actAllocEntry (p : Port) (s : State) : State × Reply :=
  if s.ctc.quota[p] ≤ s.ctc.owned[p] then (s, Reply.bare .quota)
  else
    match lowestFree s with
    | none => (s, Reply.bare .full)
    | some i =>
        (modOwned p (· + 1) (s.modEntry i fun _ => { Entry.default with state := .held, owner := some p }),
          ⟨.ok, [byteOf i.val]⟩)

/-- The checks of R86 for a request on one entry by its owner. -/
def onOwnEntry (p : Port) (index : Byte) (s : State) (f : EntryNo → State × Reply) : State × Reply :=
  match entryOf index with
  | none => (s, Reply.bare .range)
  | some i => if s.ctc.entries[i].owner = some p then f i else (s, Reply.bare .denied)

/-- WRITE_ENTRY (R87): the whole image, into a HELD entry; spent is cleared. -/
def actWriteEntry (p : Port) (index : Byte) (image : RawImage) (s : State) : State × Reply :=
  onOwnEntry p index s fun i =>
    if s.ctc.entries[i].state = .held then
      match parseImage image with
      | none => (s, Reply.bare .range)
      | some im => (s.modEntry i fun e => { e with image := im, spent := false }, Reply.bare .ok)
    else (s, Reply.bare .state)

/-- READ_ENTRY (R88): any port, any entry. -/
def actReadEntry (index : Byte) (s : State) : State × Reply :=
  match entryOf index with
  | none => (s, Reply.bare .range)
  | some i => (s, ⟨.ok, s.ctc.entries[i].wire⟩)

/-- The validation of R89, in its order: none when the entry may be armed, otherwise the result of the first failure. -/
def armFailure (s : State) (e : Entry) : Option Result :=
  if e.spent then some .range
  else
    match e.image.action, e.image.track with
    | .note, some _ => some .range
    | .note, none => none
    | .set, none => some .range
    | .clear, none => some .range
    | .pulse, none => some .range
    | .set, some k => trackCheck s e k
    | .clear, some k => trackCheck s e k
    | .pulse, some k => if e.image.width = none then some .range else trackCheck s e k
    | .window, t =>
        if e.image.stop = none ∨ e.image.stop = some e.image.start then some .range
        else
          match t with
          | none => none
          | some k => trackCheck s e k
where
  /-- A named track must be owned by the entry's owner. -/
  trackCheck (s : State) (e : Entry) (k : TrackNo) : Option Result :=
    if s.td[k].owner = e.owner then none else some .denied

/-- The state ARM_ENTRY takes an entry to (R90). -/
def armedState (s : State) : EntryState := if s.inFiring then .arming else .live

/-- ARM_ENTRY (R89, R90). -/
def actArmEntry (p : Port) (index : Byte) (s : State) : State × Reply :=
  onOwnEntry p index s fun i =>
    if s.ctc.entries[i].state = .held then
      match armFailure s s.ctc.entries[i] with
      | some r => (s, Reply.bare r)
      | none => (s.modEntry i fun e => { e with state := armedState s }, ⟨.ok, [(armedState s).code]⟩)
    else (s, Reply.bare .state)

/-- An ARMING or LIVE entry is taken out of service: its points are removed and its window force-closed (R93 steps 1
and 2). -/
def withdrawEntry (i : EntryNo) (s : State) : State := forceClose false i (removePoints i s)

/-- HOLD_ENTRY (R93). -/
def actHoldEntry (p : Port) (index : Byte) (s : State) : State × Reply :=
  onOwnEntry p index s fun i =>
    if s.ctc.entries[i].state = .arming ∨ s.ctc.entries[i].state = .live then
      ((withdrawEntry i s).modEntry i fun e => { e with state := .held }, Reply.bare .ok)
    else (s, Reply.bare .state)

/-- Entry i is freed (R95): an ARMING or LIVE entry is first taken out of service; then it is FREE with no owner and the
default image. -/
def freeOne (i : EntryNo) (s : State) : State :=
  (if s.ctc.entries[i].state = .arming ∨ s.ctc.entries[i].state = .live then withdrawEntry i s else s).modEntry i
    fun _ => Entry.default

/-- FREE_ENTRY (R95). -/
def actFreeEntry (p : Port) (index : Byte) (s : State) : State × Reply :=
  onOwnEntry p index s fun i => (modOwned p (· - 1) (freeOne i s), Reply.bare .ok)

/-- The flags after a set mask and a clear mask (R96). -/
def EntryFlags.modify (f set clear : EntryFlags) : EntryFlags :=
  ⟨(f.quiet || set.quiet) && !clear.quiet, (f.reportGated || set.reportGated) && !clear.reportGated,
    (f.pause || set.pause) && !clear.pause⟩

/-- Two masks that name a flag in common (R96). -/
def EntryFlags.meet (a b : EntryFlags) : Bool :=
  (a.quiet && b.quiet) || (a.reportGated && b.reportGated) || (a.pause && b.pause)

/-- The two masks of MODIFY_FLAGS, none when either names anything else or they name a flag in common (R96). -/
def flagMasks (setMask clearMask : Byte) : Option (EntryFlags × EntryFlags) :=
  match flagsOf setMask, flagsOf clearMask with
  | some a, some b => if a.meet b then none else some (a, b)
  | some _, none => none
  | none, _ => none

/-- What follows in HOLDOVER when PAUSE is newly set on a LIVE entry (R97). -/
def pauseNow (i : EntryNo) (had : Bool) (s : State) : State :=
  if s.ctc.entries[i].pausing && !had && s.ls.lock == .holdover then forceClose true i (removePoints i s) else s

/-- MODIFY_FLAGS (R96, R97). -/
def actModifyFlags (p : Port) (index setMask clearMask : Byte) (s : State) : State × Reply :=
  onOwnEntry p index s fun i =>
    match flagMasks setMask clearMask with
    | none => (s, Reply.bare .range)
    | some (a, b) =>
        let f := s.ctc.entries[i].image.flags.modify a b
        (pauseNow i s.ctc.entries[i].image.flags.pause
          (s.modEntry i fun e => { e with image := { e.image with flags := f } }), ⟨.ok, [f.code]⟩)

/-! ### The tracks (R133 to R137, R146) -/

/-- A request on a track by its number, RANGE at 8 or more. -/
def onTrackNo (track : Byte) (s : State) (f : TrackNo → State × Reply) : State × Reply :=
  match trackOf track with
  | none => (s, Reply.bare .range)
  | some k => f k

/-- A request on a track by its owner (R134, R136, R137): RANGE, then DENIED. -/
def onOwnTrack (p : Port) (track : Byte) (s : State) (f : TrackNo → State × Reply) : State × Reply :=
  onTrackNo track s fun k => if s.td[k].owner = some p then f k else (s, Reply.bare .denied)

/-- ASSIGN_TRACK (R133). -/
def actAssignTrack (p : Port) (track : Byte) (s : State) : State × Reply :=
  onTrackNo track s fun k =>
    match s.td[k].owner with
    | none => (s.modTrack k fun t => { t with owner := some p }, Reply.bare .ok)
    | some q => if q = p then (s, Reply.bare .already) else (s, Reply.bare .denied)

/-- The entry is ARMING or LIVE. -/
def Entry.armed (e : Entry) : Bool := e.state == .arming || e.state == .live

/-- An ARMING or LIVE entry of port p names track k (R134). -/
def trackInUse (p : Port) (k : TrackNo) (s : State) : Bool :=
  allEntries.any fun i =>
    s.ctc.entries[i].armed && s.ctc.entries[i].owner == some p && s.ctc.entries[i].image.track == some k

/-- RELEASE_TRACK (R134). -/
def actReleaseTrack (p : Port) (track : Byte) (s : State) : State × Reply :=
  onOwnTrack p track s fun k =>
    if trackInUse p k s then (s, Reply.bare .trackInUse) else (s.modTrack k Track.release, Reply.bare .ok)

/-- SET_TRACK (R136, R197). -/
def actSetTrack (p : Port) (track polarity safe onLoss : Byte) (s : State) : State × Reply :=
  onOwnTrack p track s fun k =>
    match yesNo polarity, yesNo safe, yesNo onLoss with
    | some a, some b, some c =>
        (s.modTrack k fun t => { t with inverted := a, safeActive := b, keepOnLoss := c }, Reply.bare .ok)
    | none, _, _ => (s, Reply.bare .range)
    | some _, none, _ => (s, Reply.bare .range)
    | some _, some _, none => (s, Reply.bare .range)

/-- DRIVE_TRACK (R137): the response carries the levels after the write. -/
def actDriveTrack (p : Port) (track value : Byte) (s : State) : State × Reply :=
  onOwnTrack p track s fun k =>
    match yesNo value with
    | none => (s, Reply.bare .range)
    | some v => (s.modTrack k (Track.drive v), ⟨.ok, [(s.td[k].drive v).levels]⟩)

/-- READ_TRACK (R146). -/
def actReadTrack (track : Byte) (s : State) : State × Reply := onTrackNo track s fun k => (s, ⟨.ok, s.td[k].wire⟩)

/-! ### Event delivery (R151 to R164) -/

/-- POP_EVENT (R156): the oldest record and the number behind it; the record is marked. -/
def actPopEvent (p : Port) (s : State) : State × Reply :=
  match s.er[p].queue with
  | [] => (s, Reply.bare .empty)
  | ev :: rest => (s.modEvents p fun q => { q with popMark := true }, ⟨.ok, ev.wire ++ [byteOf rest.length]⟩)

/-- READ_QUEUE_INFO (R157): level, lost count, watermark, OVERFLOW; the lost count is marked. -/
def actReadQueueInfo (p : Port) (s : State) : State × Reply :=
  (s.modEvents p fun q => { q with lostMark := true },
    ⟨.ok, [byteOf s.er[p].queue.length, byteOf s.er[p].lost, byteOf s.er[p].watermark,
      flagByte [s.er[p].overflowCause]]⟩)

/-- READ_LATEST (R160): the register's flags and record; a fresh register is marked. -/
def actReadLatest (p : Port) (slot : Byte) (s : State) : State × Reply :=
  match slotOf slot with
  | none => (s, Reply.bare .range)
  | some n =>
      match s.er[p].latest[n].record with
      | none => (s, Reply.bare .empty)
      | some ev =>
          (s.modEvents p fun q =>
              { q with latest := vmod q.latest n fun r => { r with mark := r.mark || r.fresh } },
            ⟨.ok, s.er[p].latest[n].flags :: ev.wire⟩)

/-- WRITE_SLOT (R152): the settings are taken and the slot's latest register is emptied. -/
def actWriteSlot (p : Port) (slot : Byte) (image : RawSlot) (s : State) : State × Reply :=
  match slotOf slot, parseSlot image with
  | some n, some k =>
      (s.modEvents p fun q =>
          { q with
            slots := vmod q.slots n fun _ => k
            latest := vmod q.latest n fun _ => LatestRegister.empty },
        Reply.bare .ok)
  | none, _ => (s, Reply.bare .range)
  | some _, none => (s, Reply.bare .range)

/-- READ_SLOT (R153): the six settings and the port mask. -/
def actReadSlot (p : Port) (slot : Byte) (s : State) : State × Reply :=
  match slotOf slot with
  | none => (s, Reply.bare .range)
  | some n => (s, ⟨.ok, s.er[p].slots[n].wire ++ [s.er[p].portMask]⟩)

/-- SET_PORT_MASK (R151). -/
def actSetPortMask (p : Port) (mask : Byte) (s : State) : State × Reply :=
  (s.modEvents p fun q => { q with portMask := mask }, ⟨.ok, [mask]⟩)

/-- SET_ATTN_MASK (R162): the response carries the mask and the watermark now in force. -/
def actSetAttnMask (p : Port) (causes : BitVec 16) (watermark : Byte) (s : State) : State × Reply :=
  match causeSetOf causes, watermarkOf watermark with
  | some c, some w =>
      (s.modEvents p fun q => { q with attnMask := c, watermark := w }, ⟨.ok, CauseSet.wire c ++ [byteOf w]⟩)
  | none, _ => (s, Reply.bare .range)
  | some _, none => (s, Reply.bare .range)

/-- READ_ATTN (R164): summary, pending set, mask. -/
def actReadAttn (p : Port) (s : State) : State × Reply :=
  (s, ⟨.ok, [byteOf (summaryOf (s.effectiveCauses p))] ++ CauseSet.wire (s.causes p) ++ CauseSet.wire s.er[p].attnMask⟩)

/-! ### The claim and the shared configuration (R168 to R182) -/

/-- The claim is granted to port p: a staged copy of the active configuration, and p's CLAIM cause (R167, R168). -/
def grantClaim (p : Port) (s : State) : State :=
  setClaimCause p { s with cc := { s.cc with holder := some p, staged := some s.cc.active } }

/-- REQUEST_CLAIM (R168): the position on the waiting list follows OK, ALREADY and QUEUED alike. -/
def actRequestClaim (p : Port) (s : State) : State × Reply :=
  match s.cc.holder with
  | none => (grantClaim p s, ⟨.ok, [0]⟩)
  | some h =>
      if h = p then (s, ⟨.already, [0]⟩)
      else if p ∈ s.cc.waiting then (s, ⟨.queued, [byteOf (s.cc.position p)]⟩)
      else
        ({ s with cc := { s.cc with waiting := s.cc.waiting ++ [p] } },
          ⟨.queued, [byteOf (s.cc.waiting.length + 1)]⟩)

/-- Port p leaves the waiting list, the others keep their order (R167). -/
def leaveWaiting (p : Port) (s : State) : State :=
  { s with cc := { s.cc with waiting := s.cc.waiting.filter fun q => q ≠ p } }

/-- WITHDRAW (R169). -/
def actWithdraw (p : Port) (s : State) : State × Reply :=
  if p ∈ s.cc.waiting then (leaveWaiting p s, Reply.bare .ok) else (s, Reply.bare .notWaiting)

/-- Discarded edits are recorded by the holder's CLAIM cause (R170 step 1). -/
def noteDiscarded (h : Port) (s : State) : State :=
  match s.cc.staged with
  | none => s
  | some c => if c = s.cc.active then s else setClaimCause h s

/-- The holder's claim passes to the oldest waiter, or to none (R170 steps 2 and 3). -/
def passClaim (s : State) : State :=
  match s.cc.waiting with
  | [] => { s with cc := { s.cc with holder := none, staged := none } }
  | q :: rest => grantClaim q { s with cc := { s.cc with waiting := rest } }

/-- The holder h gives up the claim (R170). -/
def giveUpClaim (h : Port) (s : State) : State := passClaim (noteDiscarded h s)

/-- RELEASE_CLAIM (R170). -/
def actReleaseClaim (p : Port) (s : State) : State × Reply :=
  if s.cc.holder = some p then (giveUpClaim p s, Reply.bare .ok) else (s, Reply.bare .denied)

/-- READ_CLAIM (R172): the claim record; a pending CLAIM cause is marked. -/
def actReadClaim (p : Port) (s : State) : State × Reply :=
  ({ s with cc := { s.cc with claimMarks := vmod s.cc.claimMarks p fun m => m || s.er[p].claimCause } },
    ⟨.ok, s.cc.wire p⟩)

/-- STAGE_PARAM (R175): PENDING, then RANGE for an unknown id or a value the parameter does not allow. -/
def actStageParam (p : Port) (id : Byte) (value : BitVec 24) (s : State) : State × Reply :=
  holderOnly p s
    (if s.cc.pendingRecord.isSome then (s, Reply.bare .pending)
    else
      match paramOf id, s.cc.staged with
      | some q, some c =>
          match c.write value.toNat q with
          | none => (s, Reply.bare .range)
          | some d => ({ s with cc := { s.cc with staged := some d } }, ⟨.ok, id :: be24 (d.read q)⟩)
      | none, _ => (s, Reply.bare .range)
      | some _, none => (s, Reply.bare .range))

/-- The record a READ_PARAM selector names: ACTIVE 0, STAGED 1, PENDING 2; none for any other selector (R176, R197). -/
def selected (selector : Byte) (c : ClaimController) : Option (Option RefConfig) :=
  match selector.toNat with
  | 0 => some (some c.active)
  | 1 => some c.staged
  | 2 => some c.pendingRecord
  | _ => none

/-- READ_PARAM (R176). -/
def actReadParam (id selector : Byte) (s : State) : State × Reply :=
  match paramOf id, selected selector s.cc with
  | none, _ => (s, Reply.bare .range)
  | some _, none => (s, Reply.bare .range)
  | some _, some none => (s, Reply.bare .state)
  | some q, some (some c) => (s, ⟨.ok, id :: be24 (c.read q)⟩)

/-- COMMIT (R178): WAITING is 1, APPLIED is 0. -/
def actCommit (p : Port) (s : State) : State × Reply :=
  holderOnly p s
    (match s.cc.pendingRecord, s.cc.staged with
    | some _, _ => (s, Reply.bare .pending)
    | none, none => (s, ⟨.ok, [0]⟩)
    | none, some c =>
        if s.inFiring then ({ s with cc := { s.cc with pendingRecord := some c } }, ⟨.ok, [1]⟩)
        else (applyRecord c s, ⟨.ok, [0]⟩))

/-- DISCARD (R177). -/
def actDiscard (p : Port) (s : State) : State × Reply :=
  holderOnly p s ({ s with cc := { s.cc with staged := some s.cc.active } }, Reply.bare .ok)

/-- SET_QUOTA (R84, R182). -/
def actSetQuota (p : Port) (target quota : Byte) (s : State) : State × Reply :=
  holderOnly p s
    (match portOf target with
    | none => (s, Reply.bare .range)
    | some q =>
        if 64 < quota.toNat then (s, Reply.bare .range)
        else
          ({ s with ctc := { s.ctc with quota := vmod s.ctc.quota q fun _ => quota.toNat } },
            ⟨.ok, [target, quota]⟩))

/-! ### DETACH (R193) -/

/-- Part 1: every entry of p is freed, in index order, and p's owned count becomes 0 (R102). -/
def detachEntries (p : Port) (s : State) : State :=
  modOwned p (fun _ => 0)
    (allEntries.foldl (fun t i => if t.ctc.entries[i].owner = some p then freeOne i t else t) s)

/-- Part 3: the claim is released or p leaves the waiting list, and p's CLAIM mark is removed (R183). -/
def detachClaim (p : Port) (s : State) : State :=
  let t := leaveWaiting p (if s.cc.holder = some p then giveUpClaim p s else s)
  { t with cc := { t.cc with claimMarks := vmod t.cc.claimMarks p fun _ => false } }

/-- Part 4: p's change latches, step-seen indication and marks (R16, R33, R79). -/
def detachMarks (p : Port) (s : State) : State :=
  { s with
    eq := { s.eq with latches := vmod s.eq.latches p fun _ => Vector.replicate 4 ⟨false, false⟩ }
    pt := { s.pt with stepSeen := vmod s.pt.stepSeen p fun _ => ⟨false, false⟩ }
    ls := { s.ls with lockMarks := vmod s.ls.lockMarks p fun _ => false } }

/-- DETACH in its six parts (R193). -/
def actDetach (p : Port) (s : State) : State × Reply :=
  (((detachMarks p (detachClaim p (releaseTracksOf p (detachEntries p s)))).modEvents p
      fun _ => EventPort.default).modPort p fun q => { q with frameErrors := 0 },
    Reply.bare .ok)

/-- An unknown code reaches no block and gives UNKNOWN (R189). -/
def actUnknownCode (s : State) : State × Reply := (s, Reply.bare .unknown)

end Sys2Proof.Machine
end

