-- ==== Sys2Proof/Machine/PortFrames.lean ====
section
/-! DEFINITION. The events on a port's lines: SELECT_FALL, SELECT_RISE and SERIAL_CLOCK_EDGE (R185, R186, R188, R190,
R195), with the request that a clock edge completes (R187; log entry 6). -/

namespace Sys2Proof.Machine

/-! ### The fall and the rise of the select line -/

/-- The fall of CPpCS_n at an IDLE port: no request bytes, nothing shifted, RECEIVING, and the first bit of 0xFF on
CPpSDO (R185, R186). A port that is not IDLE has its select line low already (log entry 4). -/
def PortInterface.fall (q : PortInterface) : PortInterface :=
  if q.framing = .idle then { q with framing := .receiving, bits := [], shifted := 0, sdo := some true } else q

/-- The fall of CPpCS_n while RESET_n is low (R195): no frame is carried on, so a port whose select line is low when device
reset ends is DISCARDING; CPpSDO stays at high impedance. -/
def PortInterface.fallInReset (q : PortInterface) : PortInterface := { q with framing := .discarding }

/-- SELECT_FALL (R186, R195). -/
def execSelectFall (p : Port) (s : State) : Host.Outcome State Fault Refusal :=
  .next (s.modPort p (if s.resetLow then PortInterface.fallInReset else PortInterface.fall))

/-- The rise at the Port Interface: IDLE and high impedance from every state; in RECEIVING the bits are dropped and the
frame-error count goes up by one (R186, R188). -/
def PortInterface.rise (q : PortInterface) : PortInterface :=
  match q.framing with
  | .receiving => { q with framing := .idle, bits := [], frameErrors := satInc8 q.frameErrors, sdo := none }
  | .idle => q
  | .responding => { q with framing := .idle, sdo := none }
  | .trailing => { q with framing := .idle, sdo := none }
  | .discarding => { q with framing := .idle, sdo := none }

/-- Every read mark of p is removed, in every block that keeps them (R190). -/
def removeMarks (p : Port) (s : State) : State :=
  { s with
    eq := { s.eq with latches := vmod s.eq.latches p fun l => vall l fun m => { m with mark := false } }
    pt := { s.pt with stepSeen := vmod s.pt.stepSeen p fun m => { m with mark := false } }
    ls := { s.ls with lockMarks := vmod s.ls.lockMarks p fun _ => false }
    er := vmod s.er p EventPort.unmark
    cc := { s.cc with claimMarks := vmod s.cc.claimMarks p fun _ => false } }

/-- A marked bit is cleared at read-completion (R14, R29). -/
def Marked.complete (m : Marked) : Marked := { m with value := m.value && !m.mark }

/-- The read-completion effects of the marks that are still present (R190: R14, R29, R76, R156, R157, R160, R172; log
entry 20). -/
def completeRead (p : Port) (s : State) : State :=
  { s with
    eq := { s.eq with latches := vmod s.eq.latches p fun l => vall l Marked.complete }
    pt := { s.pt with stepSeen := vmod s.pt.stepSeen p Marked.complete }
    er := vmod s.er p fun q =>
      { q.complete with
        lockCause := q.lockCause && !s.ls.lockMarks[p]
        claimCause := q.claimCause && !s.cc.claimMarks[p] } }

/-- The rise of CPpCS_n (R186, R190): from TRAILING the read-completion effects, then every mark of p goes. -/
def selectRises (p : Port) (s : State) : State :=
  (removeMarks p (if s.pi[p].framing = .trailing then completeRead p s else s)).modPort p PortInterface.rise

/-- SELECT_RISE (R186); at an IDLE port the select line is high already (log entry 4). -/
def execSelectRise (p : Port) (s : State) : Host.Outcome State Fault Refusal :=
  .next (if s.pi[p].framing = .idle then s else selectRises p s)

/-! ### The serial clock -/

/-- What the block that owns a request does and answers; none for a command that is no request. -/
def requestAct (i : Instr) : Option (State → State × Reply) :=
  match i with
  | .unknownCode _ _ => some actUnknownCode
  | .nop p => some (actNop p)
  | .detach p => some (actDetach p)
  | .readStatus p => some (actReadStatus p)
  | .readInputs p => some (actReadInputs p)
  | .freerunOn p => some (actFreerunOn p)
  | .freerunOff p => some (actFreerunOff p)
  | .restartReference p => some (actRestartReference p)
  | .clearCounters p => some (actClearCounters p)
  | .allocEntry p => some (actAllocEntry p)
  | .writeEntry p index image => some (actWriteEntry p index image)
  | .readEntry _ index => some (actReadEntry index)
  | .armEntry p index => some (actArmEntry p index)
  | .holdEntry p index => some (actHoldEntry p index)
  | .freeEntry p index => some (actFreeEntry p index)
  | .modifyFlags p index setMask clearMask => some (actModifyFlags p index setMask clearMask)
  | .assignTrack p track => some (actAssignTrack p track)
  | .releaseTrack p track => some (actReleaseTrack p track)
  | .setTrack p track polarity safe onLoss => some (actSetTrack p track polarity safe onLoss)
  | .driveTrack p track value => some (actDriveTrack p track value)
  | .readTrack _ track => some (actReadTrack track)
  | .popEvent p => some (actPopEvent p)
  | .readQueueInfo p => some (actReadQueueInfo p)
  | .readLatest p slot => some (actReadLatest p slot)
  | .writeSlot p slot image => some (actWriteSlot p slot image)
  | .readSlot p slot => some (actReadSlot p slot)
  | .setPortMask p mask => some (actSetPortMask p mask)
  | .setAttnMask p causes watermark => some (actSetAttnMask p causes watermark)
  | .readAttn p => some (actReadAttn p)
  | .requestClaim p => some (actRequestClaim p)
  | .withdraw p => some (actWithdraw p)
  | .releaseClaim p => some (actReleaseClaim p)
  | .readClaim p => some (actReadClaim p)
  | .stageParam p id value => some (actStageParam p id value)
  | .readParam _ id selector => some (actReadParam id selector)
  | .commit p => some (actCommit p)
  | .discard p => some (actDiscard p)
  | .setQuota p target quota => some (actSetQuota p target quota)
  | .deviceReset => none
  | .rawLevelChange _ _ => none
  | .runExpiry _ => none
  | .gapCountExpiry => none
  | .standstillExpiry => none
  | .missDeadlineExpiry => none
  | .freeStep => none
  | .ticketDue => none
  | .pulseEnd _ => none
  | .selectFall _ => none
  | .selectRise _ => none
  | .serialClockEdge _ _ _ => none

/-- A bit of the response, most significant bit of the first byte first; ones beyond its end (R185, R186). -/
def responseBit (response : List Byte) (i : Nat) : Bool := (bitsOfBytes response)[i]?.getD true

/-- A rising edge in RECEIVING that completes no request: one more bit (R186). -/
def PortInterface.receiveBit (sdi : Bool) (q : PortInterface) : PortInterface :=
  { q with sck := true, bits := q.bits ++ [sdi] }

/-- A rising edge in RESPONDING: the bit on CPpSDO counts as shifted out, and after the last the port is TRAILING
(R186). -/
def PortInterface.shiftBit (q : PortInterface) : PortInterface :=
  { q with
    sck := true
    shifted := q.shifted + 1
    framing := if q.shifted + 1 = 8 * q.response.length then .trailing else .responding }

/-- The request that the bits received and one more spell, when they are a whole request (R186, R189). -/
def completedRequest (p : Port) (bits : List Bool) : Option Instr :=
  if requestComplete bits then decodeRequest p (bytesOfBits bits) else none

/-- A rising edge of CPpSCK while the select line is low (R185, R186). -/
def risingEdge (p : Port) (sdi : Bool) (s : State) : State :=
  match s.pi[p].framing with
  | .idle => s.modPort p fun q => { q with sck := true }
  | .trailing => s.modPort p fun q => { q with sck := true }
  | .discarding => s.modPort p fun q => { q with sck := true }
  | .responding => s.modPort p PortInterface.shiftBit
  | .receiving =>
      match (completedRequest p (s.pi[p].bits ++ [sdi])).bind requestAct with
      | none => s.modPort p (PortInterface.receiveBit sdi)
      | some act => answerRequest p (s.pi[p].bits ++ [sdi]) act s

/-- A falling edge of CPpSCK (R185, R186): in RESPONDING the next bit of the response goes out, in every other frame a
one; an IDLE port ignores its clock and stays at high impedance. -/
def PortInterface.fallingEdge (q : PortInterface) : PortInterface :=
  match q.framing with
  | .idle => { q with sck := false }
  | .responding => { q with sck := false, sdo := some (responseBit q.response q.shifted) }
  | .receiving => { q with sck := false, sdo := some true }
  | .trailing => { q with sck := false, sdo := some true }
  | .discarding => { q with sck := false, sdo := some true }

/-- The clock moves to a level (R186); a line that has that level already makes no edge (log entry 7). While RESET_n is low
no port carries on a frame (R195), so nothing but the clock level moves. -/
def clockEdge (p : Port) (rising sdi : Bool) (s : State) : State :=
  if s.pi[p].sck = rising then s
  else if s.resetLow then s.modPort p fun q => { q with sck := rising }
  else if rising then risingEdge p sdi s
  else s.modPort p PortInterface.fallingEdge

/-- SERIAL_CLOCK_EDGE (R186). -/
def execSerialClockEdge (p : Port) (rising sdi : Bool) (s : State) : Host.Outcome State Fault Refusal :=
  .next (clockEdge p rising sdi s)

end Sys2Proof.Machine
end

