-- ==== Sys2Proof/Machine/Requests.lean ====
section
/-! DEFINITION. The meaning of each request command: the rest of the request's bits arrive and complete it, and it is
taken (R186, R187, R189; log entry 5). Where the request stands in no frame that it can complete, nothing changes. -/

namespace Sys2Proof.Machine

/-- UNKNOWN_CODE (R189). -/
def execUnknownCode (p : Port) (code : Byte) (s : State) : Host.Outcome State Fault Refusal :=
  .next (takeRequest p (.unknownCode p code) actUnknownCode s)

/-- NOP (R192). -/
def execNop (p : Port) (s : State) : Host.Outcome State Fault Refusal :=
  .next (takeRequest p (.nop p) (actNop p) s)

/-- DETACH (R193). -/
def execDetach (p : Port) (s : State) : Host.Outcome State Fault Refusal :=
  .next (takeRequest p (.detach p) (actDetach p) s)

/-- READ_STATUS (R77). -/
def execReadStatus (p : Port) (s : State) : Host.Outcome State Fault Refusal :=
  .next (takeRequest p (.readStatus p) (actReadStatus p) s)

/-- READ_INPUTS (R14). -/
def execReadInputs (p : Port) (s : State) : Host.Outcome State Fault Refusal :=
  .next (takeRequest p (.readInputs p) (actReadInputs p) s)

/-- FREERUN_ON (R70). -/
def execFreerunOn (p : Port) (s : State) : Host.Outcome State Fault Refusal :=
  .next (takeRequest p (.freerunOn p) (actFreerunOn p) s)

/-- FREERUN_OFF (R72). -/
def execFreerunOff (p : Port) (s : State) : Host.Outcome State Fault Refusal :=
  .next (takeRequest p (.freerunOff p) (actFreerunOff p) s)

/-- RESTART_REFERENCE (R73). -/
def execRestartReference (p : Port) (s : State) : Host.Outcome State Fault Refusal :=
  .next (takeRequest p (.restartReference p) (actRestartReference p) s)

/-- CLEAR_COUNTERS (R78). -/
def execClearCounters (p : Port) (s : State) : Host.Outcome State Fault Refusal :=
  .next (takeRequest p (.clearCounters p) (actClearCounters p) s)

/-- ALLOC_ENTRY (R85). -/
def execAllocEntry (p : Port) (s : State) : Host.Outcome State Fault Refusal :=
  .next (takeRequest p (.allocEntry p) (actAllocEntry p) s)

/-- WRITE_ENTRY (R86, R87). -/
def execWriteEntry (p : Port) (index : Byte) (image : RawImage) (s : State) : Host.Outcome State Fault Refusal :=
  .next (takeRequest p (.writeEntry p index image) (actWriteEntry p index image) s)

/-- READ_ENTRY (R88). -/
def execReadEntry (p : Port) (index : Byte) (s : State) : Host.Outcome State Fault Refusal :=
  .next (takeRequest p (.readEntry p index) (actReadEntry index) s)

/-- ARM_ENTRY (R86, R89, R90). -/
def execArmEntry (p : Port) (index : Byte) (s : State) : Host.Outcome State Fault Refusal :=
  .next (takeRequest p (.armEntry p index) (actArmEntry p index) s)

/-- HOLD_ENTRY (R86, R93). -/
def execHoldEntry (p : Port) (index : Byte) (s : State) : Host.Outcome State Fault Refusal :=
  .next (takeRequest p (.holdEntry p index) (actHoldEntry p index) s)

/-- FREE_ENTRY (R86, R95). -/
def execFreeEntry (p : Port) (index : Byte) (s : State) : Host.Outcome State Fault Refusal :=
  .next (takeRequest p (.freeEntry p index) (actFreeEntry p index) s)

/-- MODIFY_FLAGS (R86, R96, R97). -/
def execModifyFlags (p : Port) (index : Byte) (setMask : Byte) (clearMask : Byte) (s : State) : Host.Outcome State Fault Refusal :=
  .next (takeRequest p (.modifyFlags p index setMask clearMask) (actModifyFlags p index setMask clearMask) s)

/-- ASSIGN_TRACK (R133). -/
def execAssignTrack (p : Port) (track : Byte) (s : State) : Host.Outcome State Fault Refusal :=
  .next (takeRequest p (.assignTrack p track) (actAssignTrack p track) s)

/-- RELEASE_TRACK (R134). -/
def execReleaseTrack (p : Port) (track : Byte) (s : State) : Host.Outcome State Fault Refusal :=
  .next (takeRequest p (.releaseTrack p track) (actReleaseTrack p track) s)

/-- SET_TRACK (R136). -/
def execSetTrack (p : Port) (track : Byte) (polarity : Byte) (safe : Byte) (onLoss : Byte) (s : State) : Host.Outcome State Fault Refusal :=
  .next (takeRequest p (.setTrack p track polarity safe onLoss) (actSetTrack p track polarity safe onLoss) s)

/-- DRIVE_TRACK (R137). -/
def execDriveTrack (p : Port) (track : Byte) (value : Byte) (s : State) : Host.Outcome State Fault Refusal :=
  .next (takeRequest p (.driveTrack p track value) (actDriveTrack p track value) s)

/-- READ_TRACK (R146). -/
def execReadTrack (p : Port) (track : Byte) (s : State) : Host.Outcome State Fault Refusal :=
  .next (takeRequest p (.readTrack p track) (actReadTrack track) s)

/-- POP_EVENT (R156). -/
def execPopEvent (p : Port) (s : State) : Host.Outcome State Fault Refusal :=
  .next (takeRequest p (.popEvent p) (actPopEvent p) s)

/-- READ_QUEUE_INFO (R157). -/
def execReadQueueInfo (p : Port) (s : State) : Host.Outcome State Fault Refusal :=
  .next (takeRequest p (.readQueueInfo p) (actReadQueueInfo p) s)

/-- READ_LATEST (R160). -/
def execReadLatest (p : Port) (slot : Byte) (s : State) : Host.Outcome State Fault Refusal :=
  .next (takeRequest p (.readLatest p slot) (actReadLatest p slot) s)

/-- WRITE_SLOT (R152). -/
def execWriteSlot (p : Port) (slot : Byte) (image : RawSlot) (s : State) : Host.Outcome State Fault Refusal :=
  .next (takeRequest p (.writeSlot p slot image) (actWriteSlot p slot image) s)

/-- READ_SLOT (R153). -/
def execReadSlot (p : Port) (slot : Byte) (s : State) : Host.Outcome State Fault Refusal :=
  .next (takeRequest p (.readSlot p slot) (actReadSlot p slot) s)

/-- SET_PORT_MASK (R151). -/
def execSetPortMask (p : Port) (mask : Byte) (s : State) : Host.Outcome State Fault Refusal :=
  .next (takeRequest p (.setPortMask p mask) (actSetPortMask p mask) s)

/-- SET_ATTN_MASK (R162). -/
def execSetAttnMask (p : Port) (causes : BitVec 16) (watermark : Byte) (s : State) : Host.Outcome State Fault Refusal :=
  .next (takeRequest p (.setAttnMask p causes watermark) (actSetAttnMask p causes watermark) s)

/-- READ_ATTN (R164). -/
def execReadAttn (p : Port) (s : State) : Host.Outcome State Fault Refusal :=
  .next (takeRequest p (.readAttn p) (actReadAttn p) s)

/-- REQUEST_CLAIM (R168). -/
def execRequestClaim (p : Port) (s : State) : Host.Outcome State Fault Refusal :=
  .next (takeRequest p (.requestClaim p) (actRequestClaim p) s)

/-- WITHDRAW (R169). -/
def execWithdraw (p : Port) (s : State) : Host.Outcome State Fault Refusal :=
  .next (takeRequest p (.withdraw p) (actWithdraw p) s)

/-- RELEASE_CLAIM (R170). -/
def execReleaseClaim (p : Port) (s : State) : Host.Outcome State Fault Refusal :=
  .next (takeRequest p (.releaseClaim p) (actReleaseClaim p) s)

/-- READ_CLAIM (R172). -/
def execReadClaim (p : Port) (s : State) : Host.Outcome State Fault Refusal :=
  .next (takeRequest p (.readClaim p) (actReadClaim p) s)

/-- STAGE_PARAM (R175). -/
def execStageParam (p : Port) (id : Byte) (value : BitVec 24) (s : State) : Host.Outcome State Fault Refusal :=
  .next (takeRequest p (.stageParam p id value) (actStageParam p id value) s)

/-- READ_PARAM (R176). -/
def execReadParam (p : Port) (id : Byte) (selector : Byte) (s : State) : Host.Outcome State Fault Refusal :=
  .next (takeRequest p (.readParam p id selector) (actReadParam id selector) s)

/-- COMMIT (R178, R179). -/
def execCommit (p : Port) (s : State) : Host.Outcome State Fault Refusal :=
  .next (takeRequest p (.commit p) (actCommit p) s)

/-- DISCARD (R177). -/
def execDiscard (p : Port) (s : State) : Host.Outcome State Fault Refusal :=
  .next (takeRequest p (.discard p) (actDiscard p) s)

/-- SET_QUOTA (R84, R182). -/
def execSetQuota (p : Port) (target : Byte) (quota : Byte) (s : State) : Host.Outcome State Fault Refusal :=
  .next (takeRequest p (.setQuota p target quota) (actSetQuota p target quota) s)

end Sys2Proof.Machine
end

