-- ==== Sys2Proof/Machine/TimedEvents.lean ====
section
/-! DEFINITION. The events the hub's inputs and its own clock make: DEVICE_RESET, RAW_LEVEL_CHANGE, RUN_EXPIRY,
GAP_COUNT_EXPIRY, STANDSTILL_EXPIRY, MISS_DEADLINE_EXPIRY, FREE_STEP, TICKET_DUE and PULSE_END; which of them are due,
and the passing of one pu. An event whose condition does not hold does not happen: nothing changes (log entry 4). -/

namespace Sys2Proof.Machine

/-- The hub while RESET_n is low (R132, R163, R195): every block holds its reset value, so that every track line is low and
every attention line high, EQ follows the levels of the six lines, and no port carries on a frame: CPpSDO is at high
impedance whether the select line is high or low. The waiting commands are no state of a block (log entry 9). -/
def holdInReset (s : State) : State :=
  { State.reset with
    resetLow := true
    eq := EdgeQualifier.reset s.eq.tooth.raw s.eq.index.raw (vall s.eq.gates FilterLine.raw)
    pi := vall s.pi fun q => { PortInterface.reset q.selected q.sck with sdo := none }
    pending := s.pending
    freeCount := s.freeCount }

/-- The end of device reset (R1, R15, R32, R54, R79, R103, R130, R148, R166, R184, R195): EQ has sampled the levels the six
lines have, and a port whose select line is low discards its frame and shifts out ones. -/
def endReset (s : State) : State :=
  { holdInReset s with
    resetLow := false
    pi := vall s.pi fun q => PortInterface.reset q.selected q.sck }

/-- DEVICE_RESET: RESET_n falls, and the hub is held in reset until a step that finds no command waiting ends it (R195; log
entry 9). -/
def execDeviceReset (s : State) : Host.Outcome State Fault Refusal := .next (holdInReset s)

/-- RAW_LEVEL_CHANGE (R2): the raw level changes; with width code 0 the change is at once a filtered transition,
otherwise a run starts at this moment or the run in progress is abandoned. -/
def rawChange (line : LineId) (level : Bool) (s : State) : State :=
  if (s.eq.line line).raw = level then s
  else if s.cc.active.widthCode line = 0 then
    if (s.eq.line line).filtered = level then setLine line (fun _ => ⟨level, level, none⟩) s
    else filteredTransition applyPending line (setLine line (fun l => { l with raw := level }) s)
  else
    setLine line (fun l => ⟨level, l.filtered, if level = l.filtered then none else some s.stamp⟩) s

/-- RAW_LEVEL_CHANGE (R2). While RESET_n is low the level moves and no transition comes of it (R15). -/
def execRawLevelChange (line : LineId) (level : Bool) (s : State) : Host.Outcome State Fault Refusal :=
  .next (if s.resetLow then holdInReset (setLine line (fun l => { l with raw := level }) s) else rawChange line level s)

/-- RUN_EXPIRY (R2): a run that has lasted the line's filter width gives one filtered transition. -/
def execRunExpiry (line : LineId) (s : State) : Host.Outcome State Fault Refusal :=
  .next (if runDue line s then filteredTransition applyPending line s else s)

/-- The gap count has exceeded the standstill limit and has not expired yet (R18). -/
def gapDue (s : State) : Bool := s.pt.gap.due s.cc.active.standstillLimit

/-- GAP_COUNT_EXPIRY (R18): the gap count stops and holds the expired condition; nothing else changes. -/
def execGapCountExpiry (s : State) : Host.Outcome State Fault Refusal :=
  .next (if gapDue s then { s with pt := { s.pt with gap := .expired } } else s)

/-- The standstill timer has exceeded the standstill limit and has not expired yet (R58). -/
def standstillDue (s : State) : Bool := s.ls.standstill.due s.cc.active.standstillLimit

/-- STANDSTILL_EXPIRY (R58). -/
def execStandstillExpiry (s : State) : Host.Outcome State Fault Refusal :=
  .next (if standstillDue s then standstillExpires applyPending s else s)

/-- The tooth timer has reached the miss deadline (R41). -/
def missDue (s : State) : Bool :=
  match s.ag.deadline with
  | none => false
  | some d => decide (d ≤ s.ag.timer)

/-- MISS_DEADLINE_EXPIRY (R41): a SYNTH step. -/
def execMissDeadlineExpiry (s : State) : Host.Outcome State Fault Refusal :=
  .next (if missDue s then synthStep applyPending s else s)

/-- In FREERUN the tooth timer has reached the free-run period in force (R51). -/
def freeStepDue (s : State) : Bool :=
  s.ls.lock == .freerun && s.ag.freeRunning && decide (s.cc.active.freeRunPeriod ≤ s.ag.timer)

/-- FREE_STEP (R51). -/
def execFreeStep (s : State) : Host.Outcome State Fault Refusal :=
  .next (if freeStepDue s then freeRunStep applyPending s else s)

/-- The stamp counter has reached the due time of the first ticket on the list (R114). -/
def ticketIsDue (s : State) : Bool :=
  match s.fs.tickets with
  | [] => false
  | t :: _ => t.due == s.stamp

/-- The first ticket is taken off the list and its point fired on time, with the ticket's cycle and the interpolated
angle (R114). -/
def fireFirstTicket (s : State) : State :=
  match s.fs.tickets with
  | [] => s
  | t :: rest =>
      fire ⟨false, false, some t.cycle, s.angle⟩ t.entry t.point { s with fs := { s.fs with tickets := rest } }

/-- TICKET_DUE (R114). -/
def execTicketDue (s : State) : Host.Outcome State Fault Refusal :=
  .next (if ticketIsDue s then fireFirstTicket s else s)

/-- PULSE_END (R141): a pulse whose remaining time has reached 0 ends, and the levels follow. -/
def execPulseEnd (track : TrackNo) (s : State) : Host.Outcome State Fault Refusal :=
  .next (if s.td[track].pulse = some 0 then s.modTrack track Track.endPulse else s)

/-- The timed events that are due at this moment. -/
def dueEvents (s : State) : List Instr :=
  ((allLines.filter fun l => runDue l s).map Instr.runExpiry)
    ++ (if gapDue s then [.gapCountExpiry] else [])
    ++ (if standstillDue s then [.standstillExpiry] else [])
    ++ (if missDue s then [.missDeadlineExpiry] else [])
    ++ (if freeStepDue s then [.freeStep] else [])
    ++ (if ticketIsDue s then [.ticketDue] else [])
    ++ (((List.finRange 8).filter fun k => s.td[k].pulse == some 0).map Instr.pulseEnd)

/-- Time goes on. One pu passes (R1, R18, R58, R141): the stamp counter, the gap count, the standstill timer, the tooth timer
and every running pulse advance. While RESET_n is low no count does, since the stamp counter is 0 when device reset ends
(R1); the line rises and device reset ends (log entry 9). -/
def tick (s : State) : State :=
  if s.resetLow then endReset s
  else { s with
    stamp := s.stamp + 1
    pt := { s.pt with gap := s.pt.gap.tick }
    ls := { s.ls with standstill := s.ls.standstill.tick }
    ag := { s.ag with timer := satInc maxPu s.ag.timer }
    td := vall s.td Track.tick }

/-- The due event the hub takes next of its own accord where more than one is due: a free pick (log entry 3). -/
def chooseDue (count : Nat) (c : Instr) (rest : List Instr) : Instr :=
  (c :: rest)[Config.freePick count % (c :: rest).length]?.getD c

end Sys2Proof.Machine
end

