-- ==== Sys2Proof/Machine/Dispatch.lean ====
section
/-! DEFINITION. exec: one arm for each command, each one call of that command's meaning. -/

namespace Sys2Proof.Machine

/-- The command's effect on everything but the queue. -/
def exec (i : Instr) (s : State) : Host.Outcome State Fault Refusal :=
  match i with
  | .deviceReset => Sys2Proof.Machine.execDeviceReset s
  | .rawLevelChange line level => Sys2Proof.Machine.execRawLevelChange line level s
  | .runExpiry line => Sys2Proof.Machine.execRunExpiry line s
  | .gapCountExpiry => Sys2Proof.Machine.execGapCountExpiry s
  | .standstillExpiry => Sys2Proof.Machine.execStandstillExpiry s
  | .missDeadlineExpiry => Sys2Proof.Machine.execMissDeadlineExpiry s
  | .freeStep => Sys2Proof.Machine.execFreeStep s
  | .ticketDue => Sys2Proof.Machine.execTicketDue s
  | .pulseEnd track => Sys2Proof.Machine.execPulseEnd track s
  | .selectFall p => Sys2Proof.Machine.execSelectFall p s
  | .selectRise p => Sys2Proof.Machine.execSelectRise p s
  | .unknownCode p code => Sys2Proof.Machine.execUnknownCode p code s
  | .nop p => Sys2Proof.Machine.execNop p s
  | .detach p => Sys2Proof.Machine.execDetach p s
  | .readStatus p => Sys2Proof.Machine.execReadStatus p s
  | .readInputs p => Sys2Proof.Machine.execReadInputs p s
  | .freerunOn p => Sys2Proof.Machine.execFreerunOn p s
  | .freerunOff p => Sys2Proof.Machine.execFreerunOff p s
  | .restartReference p => Sys2Proof.Machine.execRestartReference p s
  | .clearCounters p => Sys2Proof.Machine.execClearCounters p s
  | .allocEntry p => Sys2Proof.Machine.execAllocEntry p s
  | .writeEntry p index image => Sys2Proof.Machine.execWriteEntry p index image s
  | .readEntry p index => Sys2Proof.Machine.execReadEntry p index s
  | .armEntry p index => Sys2Proof.Machine.execArmEntry p index s
  | .holdEntry p index => Sys2Proof.Machine.execHoldEntry p index s
  | .freeEntry p index => Sys2Proof.Machine.execFreeEntry p index s
  | .modifyFlags p index setMask clearMask => Sys2Proof.Machine.execModifyFlags p index setMask clearMask s
  | .assignTrack p track => Sys2Proof.Machine.execAssignTrack p track s
  | .releaseTrack p track => Sys2Proof.Machine.execReleaseTrack p track s
  | .setTrack p track polarity safe onLoss => Sys2Proof.Machine.execSetTrack p track polarity safe onLoss s
  | .driveTrack p track value => Sys2Proof.Machine.execDriveTrack p track value s
  | .readTrack p track => Sys2Proof.Machine.execReadTrack p track s
  | .popEvent p => Sys2Proof.Machine.execPopEvent p s
  | .readQueueInfo p => Sys2Proof.Machine.execReadQueueInfo p s
  | .readLatest p slot => Sys2Proof.Machine.execReadLatest p slot s
  | .writeSlot p slot image => Sys2Proof.Machine.execWriteSlot p slot image s
  | .readSlot p slot => Sys2Proof.Machine.execReadSlot p slot s
  | .setPortMask p mask => Sys2Proof.Machine.execSetPortMask p mask s
  | .setAttnMask p causes watermark => Sys2Proof.Machine.execSetAttnMask p causes watermark s
  | .readAttn p => Sys2Proof.Machine.execReadAttn p s
  | .requestClaim p => Sys2Proof.Machine.execRequestClaim p s
  | .withdraw p => Sys2Proof.Machine.execWithdraw p s
  | .releaseClaim p => Sys2Proof.Machine.execReleaseClaim p s
  | .readClaim p => Sys2Proof.Machine.execReadClaim p s
  | .stageParam p id value => Sys2Proof.Machine.execStageParam p id value s
  | .readParam p id selector => Sys2Proof.Machine.execReadParam p id selector s
  | .commit p => Sys2Proof.Machine.execCommit p s
  | .discard p => Sys2Proof.Machine.execDiscard p s
  | .setQuota p target quota => Sys2Proof.Machine.execSetQuota p target quota s
  | .serialClockEdge p rising sdi => Sys2Proof.Machine.execSerialClockEdge p rising sdi s

end Sys2Proof.Machine
end

