-- ==== Sys2Proof/Machine/Step.lean ====
section
/-! DEFINITION. The step: the command at the front of the queue, or, where none waits, what the hub does of its own
accord (log entry 2). -/

namespace Sys2Proof.Machine

/-- The hub of its own accord (log entry 2): an event that is due is taken, one of several by a free pick (log entry 3);
where none is due, one pu passes, or, while RESET_n is low, device reset ends (log entry 9). -/
def ownStep (s : State) : Host.Outcome State Fault Refusal :=
  match dueEvents s with
  | [] => .next (tick s)
  | [c] => exec c s
  | c :: d :: rest =>
      exec (chooseDue s.freeCount c (d :: rest)) { s with freeCount := s.freeCount + 1 }

/-- One step: the front command runs with the queue's rest, and an empty queue leaves the hub to itself. -/
def step (s : State) : Host.Outcome State Fault Refusal :=
  match s.pending with
  | [] => ownStep s
  | c :: rest => exec c { s with pending := rest }

/-- The state with the command that a table word spells put at the front of the queue; no row of the table gives bits,
so no word spells one and the state is unchanged (log entry 27). -/
def State.withFetchWord (s : State) (nbits w : Nat) : State :=
  match decodeTableWord nbits w with
  | none => s
  | some c => { s with pending := c :: s.pending }

end Sys2Proof.Machine
end

