-- ==== Sys2Proof/WellFormed.lean ====
section
/-! DEFINITION. Which commands are well formed: operands are bytes and numbers of bounded types, so one check is left,
that UNKNOWN_CODE carries a code the request summary does not list (R189). -/

namespace Sys2Proof

/-- UNKNOWN_CODE carries a code byte that names no request of R197; every other command is well formed by its types. -/
def WellFormed : Instr → Bool
  | .unknownCode _ code => (operandCount code).isNone
  | .deviceReset => true
  | .rawLevelChange _ _ => true
  | .runExpiry _ => true
  | .gapCountExpiry => true
  | .standstillExpiry => true
  | .missDeadlineExpiry => true
  | .freeStep => true
  | .ticketDue => true
  | .pulseEnd _ => true
  | .selectFall _ => true
  | .selectRise _ => true
  | .nop _ => true
  | .detach _ => true
  | .readStatus _ => true
  | .readInputs _ => true
  | .freerunOn _ => true
  | .freerunOff _ => true
  | .restartReference _ => true
  | .clearCounters _ => true
  | .allocEntry _ => true
  | .writeEntry _ _ _ => true
  | .readEntry _ _ => true
  | .armEntry _ _ => true
  | .holdEntry _ _ => true
  | .freeEntry _ _ => true
  | .modifyFlags _ _ _ _ => true
  | .assignTrack _ _ => true
  | .releaseTrack _ _ => true
  | .setTrack _ _ _ _ _ => true
  | .driveTrack _ _ _ => true
  | .readTrack _ _ => true
  | .popEvent _ => true
  | .readQueueInfo _ => true
  | .readLatest _ _ => true
  | .writeSlot _ _ _ => true
  | .readSlot _ _ => true
  | .setPortMask _ _ => true
  | .setAttnMask _ _ _ => true
  | .readAttn _ => true
  | .requestClaim _ => true
  | .withdraw _ => true
  | .releaseClaim _ => true
  | .readClaim _ => true
  | .stageParam _ _ _ => true
  | .readParam _ _ _ => true
  | .commit _ => true
  | .discard _ => true
  | .setQuota _ _ _ => true
  | .serialClockEdge _ _ _ => true

end Sys2Proof
end

