-- ==== Sys2Proof/Safety.lean ====
section
/-! DEFINITION. The vocabulary of the statements: a port that can complete a request, the state after its answer, and the
laws of the hub that every step keeps (R65, R82 to R84, R90, R126, R139, R155, R167, R180, R186, R190 and others). -/

namespace Sys2Proof.Safety

open Sys2Proof.Machine

/-! ### Ports and their requests -/

/-- RESET_n is high (R195), port p is RECEIVING, and the bits it has received so far begin these request bytes and are not
yet all of them (R186; log entry 5). -/
abbrev Receives (p : Port) (bytes : List Byte) (s : State) : Prop :=
  s.resetLow = false ∧ s.pi[p].framing = .receiving ∧ s.pi[p].bits <+: bitsOfBytes bytes
    ∧ s.pi[p].bits.length < 8 * bytes.length

/-- Port p holds a response and is RESPONDING, after the rising edge that completed the request (R186, R187). -/
def answered (p : Port) (request response : List Byte) (s : State) : State :=
  s.modPort p fun q =>
    { q with
      framing := .responding
      bits := bitsOfBytes request
      response := response
      shifted := 0
      sck := true
      sdo := some true }

/-- Where port p can complete this request, command i takes it: the blocks go from s to t, and the port holds this
response (R187). -/
def Answers (i : Instr) (p : Port) (request response : List Byte) (s t : State) : Prop :=
  Receives p request s → exec i s = .next (answered p request response t)

/-- A number as one byte. -/
def octet (n : Nat) : Byte := BitVec.ofNat 8 n

/-- A number as two bytes, the most significant first (R196). -/
def octets2 (n : Nat) : List Byte := [octet (n / 256), octet n]

/-- A number as three bytes, the most significant first (R196). -/
def octets3 (n : Nat) : List Byte := [octet (n / 65536), octet (n / 256), octet n]

/-- A port, an owner or a track as a byte, 0xFF when absent (R196). -/
def octetOr {n : Nat} (x : Option (Fin n)) : Byte := (x.map fun i => octet i.val).getD 0xFF

/-- An angle as two bytes, 0xFFFF when absent (R196). -/
def angleOctets (a : Option Nat) : List Byte := octets2 (a.getD 0xFFFF)

/-- The number whose binary digits are these, bit 0 first: a byte of flags. -/
def bitsValue : List Bool → Nat
  | [] => 0
  | b :: rest => b.toNat + 2 * bitsValue rest

/-- The 11 bytes of an event record (R199). -/
def recordBytes (ev : Event) : List Byte :=
  [match ev.kind with | .fire => 1 | .opened => 2 | .close => 3 | .gated => 4 | .spent => 5 | .input => 6,
    octet (bitsValue [ev.late, ev.forced, ev.level, ev.cycle.isSome]), ev.tag, octet ev.source]
    ++ octets2 ((ev.cycle.map BitVec.toNat).getD 0) ++ angleOctets ev.angle ++ octets3 ev.stamp.toNat

/-- Slot n of a port's part of ER takes this record for port p by the four conditions of R154. -/
def slotMatches (q : EventPort) (p : Port) (ev : Event) (n : SlotNo) : Prop :=
  q.slots[n].enabled = true ∧ q.slots[n].kinds.getLsbD (ev.kind.code - 1) = true
    ∧ (q.slots[n].own = false ∨ ev.owner = some p)
    ∧ ∀ j, q.portMask.getLsbD j = true → q.slots[n].mask.getLsbD j = true →
        ev.tag.getLsbD j = q.slots[n].tag.getLsbD j

/-- Every field of an entry image lies in the range R198 gives it. -/
def imageInRange (r : RawImage) : Prop :=
  r.action.toNat ≤ 4 ∧ r.start.toNat ≤ 3599 ∧ (r.stop.toNat ≤ 3599 ∨ r.stop.toNat = 0xFFFF)
    ∧ (r.track.toNat ≤ 7 ∨ r.track.toNat = 0xFF)
    ∧ (r.gate.toNat = 0 ∨ 0x10 ≤ r.gate.toNat ∧ r.gate.toNat ≤ 0x13 ∨ 0x20 ≤ r.gate.toNat ∧ r.gate.toNat ≤ 0x23)
    ∧ r.flags.toNat ≤ 7

/-- The 12 image bytes as they cross the port (R198). -/
def imageBytes (r : RawImage) : List Byte :=
  [r.action] ++ bytesOf16 r.start ++ bytesOf16 r.stop ++ [r.track] ++ bytesOf16 r.width ++ [r.tag, r.gate, r.flags, r.count]

/-- The RANGE checks of R89: a spent entry, a NOTE with a track, a SET, CLEAR or PULSE without one, a PULSE without a
width, a WINDOW without an end angle or with its start as its end. -/
def armingOutOfRange (e : Entry) : Prop :=
  e.spent = true ∨ (e.image.action = .note ∧ e.image.track ≠ none)
    ∨ ((e.image.action = .set ∨ e.image.action = .clear ∨ e.image.action = .pulse) ∧ e.image.track = none)
    ∨ (e.image.action = .pulse ∧ e.image.width = none)
    ∨ (e.image.action = .window ∧ (e.image.stop = none ∨ e.image.stop = some e.image.start))

/-- The track an entry names, if it names one, is owned by the entry's owner (R89). -/
def namedTrackOwned (s : State) (e : Entry) : Prop := ∀ k, e.image.track = some k → s.td[k].owner = e.owner

/-- Entry i is taken out of service (R93 steps 1 and 2, R123): its tickets and deferred points are removed, and an open
window is closed with one off its track's window count and a CLOSE event with FORCED unless the entry is QUIET. -/
def outOfService (i : EntryNo) (s : State) : State :=
  let e := s.ctc.entries[i]
  let removed : State := { s with fs := { s.fs with
    tickets := s.fs.tickets.filter fun t => t.entry ≠ i
    deferred := s.fs.deferred.filter fun d => d.entry ≠ i } }
  if e.windowOpen = true then
    let closed : State := { removed with
      ctc := { s.ctc with entries := s.ctc.entries.set i.val { e with windowOpen := false } }
      td := match e.image.track with
        | none => s.td
        | some k => s.td.set k.val { s.td[k] with windowCount := s.td[k].windowCount - 1 } }
    if e.image.flags.quiet = true then closed
    else post ⟨.close, false, true, false, e.image.tag, i.val, e.owner, s.cycleIfValid, s.angle, s.stamp⟩ closed
  else removed

/-! ### Firing (R116 to R123) -/

/-- Point pt of entry i, fired at occasion o in s, gives t; and so does a ticket for it that falls due, where o is the
occasion of a due ticket: not LATE, the ticket's cycle and the interpolated angle (R114). -/
def FiresTo (o : Occasion) (i : EntryNo) (pt : Point) (s t : State) : Prop :=
  fire o i pt s = t
    ∧ ∀ tk : Ticket, tk.entry = i → tk.point = pt → tk.due = s.stamp → o = ⟨false, false, some tk.cycle, s.angle⟩ →
        exec .ticketDue { s with fs := { s.fs with tickets := tk :: s.fs.tickets } } = .next t

/-- The event of this kind that entry e, numbered i, posts at occasion o unless it is QUIET (R121, R122). -/
def reported (kind : EventKind) (o : Occasion) (i : EntryNo) (e : Entry) (s : State) : State :=
  if e.image.flags.quiet = true then s
  else post ⟨kind, o.late, o.forced, false, e.image.tag, i.val, e.owner, o.cycle, o.angle, s.stamp⟩ s

/-- The events of the forced closes of the open windows among the entries named, in index order (R123): CLOSE with FORCED,
and SPENT behind it where the close spends the entry; none for a QUIET entry. -/
def forcedCloses (spends : Bool) (named : EntryNo → Bool) (s : State) : List Event :=
  ((List.finRange 64).filter fun i => named i && s.ctc.entries[i].windowOpen && !s.ctc.entries[i].image.flags.quiet).flatMap
    fun i =>
      let event (kind : EventKind) (forced : Bool) : Event :=
        ⟨kind, false, forced, false, s.ctc.entries[i].image.tag, i.val, s.ctc.entries[i].owner, s.cycleIfValid, s.angle,
          s.stamp⟩
      event .close true :: if spends && s.ctc.entries[i].spent then [event .spent false] else []

/-- Records posted one after another (R149). -/
def postAll (events : List Event) (s : State) : State := events.foldl (fun t ev => post ev t) s

/-- How many open windows of the entries named hold track k up (R139). -/
def windowsOn (named : EntryNo → Bool) (s : State) (k : TrackNo) : Nat :=
  (List.finRange 64).countP fun i =>
    named i && s.ctc.entries[i].windowOpen && s.ctc.entries[i].image.track == some k

/-- The angle of a point: the start angle, or the end angle of a WINDOW; no other action has an END (R104, R111). -/
def pointAngleOf (e : Entry) : Point → Option Nat
  | .start => some e.image.start
  | .stop => if e.image.action = .window then e.image.stop else none

/-- The taken mark of a point (R108). -/
def isTaken (s : State) (i : EntryNo) (pt : Point) : Prop :=
  (match pt with | .start => s.fs.taken[i].start | .stop => s.fs.taken[i].stop) = true

/-- The point stands on the ticket list or on the deferred list. -/
def isListed (s : State) (i : EntryNo) (pt : Point) : Prop :=
  (∃ u ∈ s.fs.tickets, u.entry = i ∧ u.point = pt) ∨ ∃ d ∈ s.fs.deferred, d.entry = i ∧ d.point = pt

/-- The START of a WINDOW whose last count is used, which enumeration passes over (R111). -/
def isSpentStart (e : Entry) (pt : Point) : Prop := pt = .start ∧ e.image.action = .window ∧ e.spent = true

/-- Entry order, and END before START within an entry (R112, R113). -/
def pointsOrdered (i j : EntryNo) (a b : Point) : Prop := i < j ∨ i = j ∧ (a = .stop ∨ b = .start)

/-- The order of the ticket list (R112): by the time remaining, then by entry, then END before START. -/
def ticketsOrdered (now : Stamp) (l : List Ticket) : Prop :=
  l.Pairwise fun a b =>
    (a.due - now).toNat < (b.due - now).toNat
      ∨ (a.due - now).toNat = (b.due - now).toNat ∧ pointsOrdered a.entry b.entry a.point b.point

/-- The order of the deferred list (R113). -/
def deferredOrdered (l : List DeferredPoint) : Prop := l.Pairwise fun a b => pointsOrdered a.entry b.entry a.point b.point

/-! ### Judging a step (R58 to R69) -/

/-- The judgement of a step in ACQUIRE, LOCKED or HOLDOVER (R59, R60). -/
def judged (c : RefConfig) (rep : StepReport) (l : LockSupervisor) : LockSupervisor :=
  let synth := l.synthInCycle || rep.kind == .synth
  if rep.tooth ≠ 0 then { l with synthInCycle := synth }
  else
    let clean := rep.finding == .matched && !synth && decide (l.closingNoise ≤ c.noiseAllowance)
    { l with
      clean := if clean then min (l.clean + 1) 255 else 0
      noisy := if clean then 0 else if c.noiseAllowance < l.closingNoise then min (l.noisy + 1) 255 else l.noisy
      indexMiss :=
        if rep.finding = .matched then 0
        else if rep.finding = .miss then min (l.indexMiss + 1) 255 else l.indexMiss
      indexErrors := if rep.finding = .mismatch then min (l.indexErrors + 1) 65535 else l.indexErrors
      synthInCycle := false }

/-- LS goes to SEARCH (R68), which starts a timer that is absent (R58). -/
def toSearch (l : LockSupervisor) : LockSupervisor :=
  { l with
    lock := .search
    settle := 0
    clean := 0
    noisy := 0
    indexMiss := 0
    synthInCycle := false
    standstill := if l.standstill = .absent then .running 0 else l.standstill }

/-- LS goes to ACQUIRE (R69). -/
def toAcquire (l : LockSupervisor) : LockSupervisor :=
  { l with lock := .acquire, settle := 0, clean := 0, synthInCycle := false }

/-- LS after a step judged in ACQUIRE (R63), LOCKED (R64 to R66) or HOLDOVER (R67), but for the marks and for a fall that
goes on to STOPPED. -/
def lockMoved (c : RefConfig) (rep : StepReport) (l : LockSupervisor) : LockSupervisor :=
  let j := judged c rep l
  let tooMany := rep.kind = .synth ∧ c.missLimit < rep.missCount
  match l.lock with
  | .acquire =>
      if tooMany then toSearch j
      else if rep.tooth = 0 ∧ c.cleanToLock ≤ j.clean then { j with lock := .locked, settle := c.settleCycles }
      else j
  | .locked =>
      if rep.tooth = 0 ∧ (rep.finding = .mismatch ∨ c.indexMissLimit < j.indexMiss ∨ c.noisyToUnlock ≤ j.noisy) then
        toAcquire j
      else if tooMany then { j with lock := .holdover, settle := 0, holdover := 0 }
      else if rep.tooth = 0 then { j with settle := j.settle - 1 }
      else j
  | .holdover =>
      let h := if rep.kind = .synth then { j with holdover := min (j.holdover + 1) 255 } else j
      if rep.kind = .synth ∧ c.holdoverLimit ≤ h.holdover then toSearch h
      else if rep.tooth = 0 ∧ rep.finding = .mismatch then toAcquire h
      else if rep.tooth = 0 ∧ rep.kind = .real ∧ rep.finding = .matched then { h with lock := .locked, settle := 0 }
      else h
  | .stopped => l
  | .search => l
  | .freerun => l

/-- The LOCK cause is set between l and m: the state changes, or in LOCKED the settle reaches 0 (R76). -/
def lockTold (l m : LockSupervisor) : Bool := m.lock != l.lock || (m.lock == .locked && l.settle == 1 && m.settle == 0)

/-- LS after a step, with the LOCK marks that a setting of the cause removes (R76). -/
def lockAfter (c : RefConfig) (rep : StepReport) (l : LockSupervisor) : LockSupervisor :=
  { lockMoved c rep l with
    lockMarks := if lockTold l (lockMoved c rep l) = true then Vector.replicate 4 false else l.lockMarks }

/-- AG with the angle invalid (R37). -/
def invalidAngle (a : AngleGenerator) : AngleGenerator :=
  { a with
    valid := false
    tooth := 0
    base := 0
    indexPending := false
    deadline := none
    lateWindow := none
    missCount := 0
    freeRunning := false }

/-- The LOCK cause set at every port (R76). -/
def lockCaused (told : Bool) (er : Vector EventPort 4) : Vector EventPort 4 :=
  Vector.ofFn fun p => { er[p] with lockCause := er[p].lockCause || told }

/-- The fall from SEARCH or ACQUIRE into STOPPED (R58, R68). -/
def onToStopped (s : State) : State :=
  { s with
    ls := { s.ls with
      lock := .stopped
      settle := 0
      clean := 0
      noisy := 0
      indexMiss := 0
      synthInCycle := false
      lockMarks := Vector.replicate 4 false }
    ag := invalidAngle s.ag
    pt := { s.pt with history := [] }
    eq := { s.eq with cycleNoise := 0, window := none }
    er := lockCaused true s.er }

/-- From u, which a step from s has reached by R35 and the judgement, what is done before the step reaches FS: the loss
teardown of a departure from the firing set (R56, R126), the entry into HOLDOVER (R127), and the way on to STOPPED where
SEARCH or ACQUIRE is entered with the timer expired (R58). -/
def handedOn (s u : State) : State :=
  let t :=
    if s.inFiring = true ∧ u.inFiring = false then teardown applyPending u
    else if s.ls.lock ≠ .holdover ∧ u.ls.lock = .holdover then holdoverDiscard u
    else u
  if u.ls.lock ≠ s.ls.lock ∧ (t.ls.lock = .search ∨ t.ls.lock = .acquire) ∧ t.ls.standstill = .expired then onToStopped t
  else t

/-- The newest intervals of a history, as a depth that falls trims it (R22). -/
def trimmed (c : RefConfig) (old new : LockState) (history : List Nat) : List Nat :=
  if depthFor c new < depthFor c old then history.drop (history.length - depthFor c new) else history

/-- The blanking window that a real edge at this stamp opens with estimate E and fraction B (R6). -/
def windowOpened (stamp : Stamp) (fraction : Nat) (estimate : Option Nat) : Option BlankingWindow :=
  estimate.bind fun e => if e * fraction / 128 = 0 then none else some ⟨stamp, e * fraction / 128⟩

/-! ### The configuration -/

/-- The values that R174 and R201 allow a parameter, as STAGE_PARAM encodes them. -/
def allowed : Param → Nat → Prop
  | .toothCount, v => 4 ≤ v ∧ v ≤ 240
  | .toothPolarity, v => v ≤ 2
  | .toothWidth, v => v ≤ 7
  | .indexPolarity, v => v ≤ 2
  | .indexWidth, v => v ≤ 7
  | .blanking, v => v ≤ 127
  | .missMargin, v => 1 ≤ v ∧ v ≤ 15
  | .missLimit, v => v ≤ 7
  | .holdoverLimit, v => 1 ≤ v ∧ v ≤ 255
  | .acquireDepth, v => v = 1 ∨ v = 2 ∨ v = 4 ∨ v = 8
  | .lockedDepth, v => v = 1 ∨ v = 2 ∨ v = 4 ∨ v = 8
  | .stepThreshold, v => v ≤ 3
  | .cleanToLock, v => 1 ≤ v ∧ v ≤ 15
  | .settleCycles, v => v ≤ 7
  | .noiseAllowance, v => v ≤ 15
  | .noisyToUnlock, v => 1 ≤ v ∧ v ≤ 15
  | .indexMissLimit, v => v ≤ 3
  | .standstillLimit, v => 65536 ≤ v ∧ v ≤ 16777215
  | .freeRunPeriod, v => 256 ≤ v ∧ v ≤ 16777215
  | .gateLevel _, v => v ≤ 1
  | .gateWidth _, v => v ≤ 7
  | .gateEvent _, v => v ≤ 3
  | .gateTag _, v => v ≤ 255

/-- A configuration with every value in the range R174 gives it. -/
def inRange (c : RefConfig) : Prop :=
  4 ≤ c.toothCount ∧ c.toothCount ≤ 240 ∧ c.blanking ≤ 127 ∧ 1 ≤ c.missMargin ∧ c.missMargin ≤ 15 ∧ c.missLimit ≤ 7
    ∧ 1 ≤ c.holdoverLimit ∧ c.holdoverLimit ≤ 255
    ∧ (c.acquireDepth = 1 ∨ c.acquireDepth = 2 ∨ c.acquireDepth = 4 ∨ c.acquireDepth = 8)
    ∧ (c.lockedDepth = 1 ∨ c.lockedDepth = 2 ∨ c.lockedDepth = 4 ∨ c.lockedDepth = 8)
    ∧ 1 ≤ c.cleanToLock ∧ c.cleanToLock ≤ 15 ∧ c.settleCycles ≤ 7 ∧ c.noiseAllowance ≤ 15
    ∧ 1 ≤ c.noisyToUnlock ∧ c.noisyToUnlock ≤ 15 ∧ c.indexMissLimit ≤ 3
    ∧ 65536 ≤ c.standstillLimit ∧ c.standstillLimit ≤ 16777215 ∧ 256 ≤ c.freeRunPeriod ∧ c.freeRunPeriod ≤ 16777215

/-! ### The cam table and the tracks -/

/-- R82: an entry is FREE exactly when it has no owner. R84: a port's owned count is the number of its entries. -/
def CamTableSound (s : State) : Prop :=
  (∀ i : EntryNo, s.ctc.entries[i].state = .free ↔ s.ctc.entries[i].owner = none)
    ∧ ∀ p : Port, s.ctc.owned[p] = (List.finRange 64).countP fun i => s.ctc.entries[i].owner == some p

/-- Entry i holds track k up: it is LIVE with its window open and names the track. -/
def holdsUp (s : State) (k : TrackNo) (i : EntryNo) : Bool :=
  s.ctc.entries[i].state == .live && s.ctc.entries[i].windowOpen && s.ctc.entries[i].image.track == some k

/-- R83: a window is open on a LIVE WINDOW entry alone. R139: a track's window count is the number of LIVE entries with
window open that name it. -/
def WindowsSound (s : State) : Prop :=
  (∀ i : EntryNo, s.ctc.entries[i].windowOpen = true →
      s.ctc.entries[i].state = .live ∧ s.ctc.entries[i].image.action = .window)
    ∧ ∀ k : TrackNo, s.td[k].windowCount = (List.finRange 64).countP (holdsUp s k)

/-- R90: every ARMING or LIVE entry that names a track names one owned by the entry's owner. -/
def ArmedTracksOwned (s : State) : Prop :=
  ∀ (i : EntryNo) (k : TrackNo),
    (s.ctc.entries[i].state = .arming ∨ s.ctc.entries[i].state = .live) → s.ctc.entries[i].image.track = some k →
      s.td[k].owner = s.ctc.entries[i].owner

/-! ### The lock state, the lists and the commit -/

/-- Outside the firing set nothing waits to fire: both lists are empty (R126), no window is open and no entry is ARMING
(R91, R125), and no commit is pending (R180). -/
def QuietOutsideFiring (s : State) : Prop :=
  s.inFiring = false →
    s.fs.tickets = [] ∧ s.fs.deferred = [] ∧ s.cc.pendingRecord = none
      ∧ ∀ i : EntryNo, s.ctc.entries[i].state ≠ .arming ∧ s.ctc.entries[i].windowOpen = false

/-- R65: settle remaining is 0 in every state other than LOCKED. R37, R50: the free-run generator runs in FREERUN alone. -/
def LockSound (s : State) : Prop :=
  (s.ls.lock ≠ .locked → s.ls.settle = 0) ∧ (s.ag.freeRunning = true ↔ s.ls.lock = .freerun)

/-- R37, R48: the angle is valid exactly outside STOPPED and SEARCH, where the tooth index and the base angle are 0, no
miss deadline and no late window is kept and no miss is counted. R51: the tooth index is less than the T in force. -/
def AngleSound (s : State) : Prop :=
  (s.ag.valid = true ↔ s.ls.lock ≠ .stopped ∧ s.ls.lock ≠ .search)
    ∧ (s.ag.valid = false →
        s.ag.tooth = 0 ∧ s.ag.base = 0 ∧ s.ag.deadline = none ∧ s.ag.lateWindow = none ∧ s.ag.missCount = 0)
    ∧ s.ag.tooth < s.cc.active.toothCount

/-! ### The claim -/

/-- R167: no port waits twice, the holder does not wait, no port waits for a claim that nobody holds, and the staged
copy is present exactly while there is a holder. -/
def ClaimSound (s : State) : Prop :=
  s.cc.waiting.Nodup ∧ (∀ h, s.cc.holder = some h → h ∉ s.cc.waiting) ∧ (s.cc.holder = none → s.cc.waiting = [])
    ∧ (s.cc.staged.isSome = true ↔ s.cc.holder.isSome = true)

/-- R174, R175: every value of the active configuration, of the staged copy and of the pending record is in range. -/
def ConfigurationInRange (s : State) : Prop :=
  inRange s.cc.active ∧ (∀ c, s.cc.staged = some c → inRange c) ∧ ∀ c, s.cc.pendingRecord = some c → inRange c

/-! ### Ports -/

/-- R185: CPpSDO is at high impedance exactly while the port is IDLE, and R195: always while RESET_n is low. R186: a
RESPONDING port has bits of its response still to shift. R188: the frame-error count is at most 255. -/
def PortsSound (s : State) : Prop :=
  ∀ p : Port,
    (s.pi[p].sdo = none ↔ s.pi[p].framing = .idle ∨ s.resetLow = true)
      ∧ (s.pi[p].framing = .responding → s.pi[p].shifted < 8 * s.pi[p].response.length)
      ∧ s.pi[p].frameErrors ≤ 255

/-- R132, R163, R195: while RESET_n is low every block holds its reset value. -/
def HeldInReset (s : State) : Prop := s.resetLow = true → s = holdInReset s

/-- Some block holds a read mark for port p (R14, R29, R76, R156, R157, R160, R172). -/
def marked (s : State) (p : Port) : Bool :=
  (List.finRange 4).any (fun n => s.eq.latches[p][n].mark) || s.pt.stepSeen[p].mark || s.ls.lockMarks[p]
    || s.cc.claimMarks[p] || s.er[p].popMark || s.er[p].lostMark || (List.finRange 4).any fun n => s.er[p].latest[n].mark

/-- R190: a port has read marks only within the frame whose request set them, and the record that POP_EVENT marked is
on the queue (R156). -/
def MarksSound (s : State) : Prop :=
  ∀ p : Port,
    (marked s p = true → s.pi[p].framing = .responding ∨ s.pi[p].framing = .trailing)
      ∧ (s.er[p].popMark = true → s.er[p].queue ≠ [])

/-! ### Measurement and capacities -/

/-- R19, R22, R23: the history holds no more intervals than the depth in force. R17: every interval is at least 1 pu, so
the estimate, when present, is at least 1 (R21). -/
def HistorySound (s : State) : Prop :=
  s.pt.history.length ≤ s.depth ∧ ∀ n ∈ s.pt.history, 1 ≤ n

/-- The capacities the spec gives: 16 queued records, a lost count of 255, a watermark from 1 to 16 (R155, R162), 24
tickets (R112), and 16-bit reference counters (00_scope.md, "Counters"). -/
def WithinCapacity (s : State) : Prop :=
  (∀ p : Port, s.er[p].queue.length ≤ 16 ∧ s.er[p].lost ≤ 255 ∧ 1 ≤ s.er[p].watermark ∧ s.er[p].watermark ≤ 16)
    ∧ s.fs.tickets.length ≤ 24
    ∧ s.eq.totalNoise ≤ 65535 ∧ s.eq.cycleNoise ≤ 65535 ∧ s.pt.speedSteps ≤ 65535 ∧ s.ag.totalMisses ≤ 65535
    ∧ s.ag.lateTeeth ≤ 65535 ∧ s.ag.indexNoise ≤ 65535 ∧ s.ag.missCount ≤ 65535 ∧ s.ls.indexErrors ≤ 65535
    ∧ s.fs.overflows ≤ 65535

end Sys2Proof.Safety
end

