-- ==== Sys2Proof/Certificates/Slice0/Obligations.lean ====
section
/-! DEFINITION. The statements for the provers. A request statement `Answers i p request response s t` says: where port p
can complete the request bytes, command i is taken, the blocks go from s to t and nowhere else, and port p holds the
response; so the frame of every such statement is t itself. -/

section

open Sys2Proof Sys2Proof.Machine Sys2Proof.Safety

/-! ### The step and the queue -/

/-- The step takes the command at the front of the queue and runs it with the queue's rest. -/
def Obligations.StepTakesTheFrontCommand : Prop :=
  ∀ (c : Instr) (rest : List Instr) (s : State), step { s with pending := c :: rest } = exec c { s with pending := rest }

/-- MODEL'S CHOICE (log entries 2 and 3): on an empty queue the hub takes a timed event that is due; where none is due one
pu passes, and with it the counts of R1, R18, R58 and R141 and the tooth timer advance and nothing else changes; while
RESET_n is low the line rises and device reset ends instead (log entry 9). The events that are due are those of R2, R18, R58, R41, R51, R114 and R141. -/
def Obligations.EmptyQueueTakesDueEventOrOnePu : Prop :=
  ∀ s : State,
    (s.pending = [] →
      (dueEvents s = [] → s.resetLow = false →
          step s = .next { s with
            stamp := s.stamp + 1
            pt := { s.pt with gap := s.pt.gap.tick }
            ls := { s.ls with standstill := s.ls.standstill.tick }
            ag := { s.ag with timer := min (s.ag.timer + 1) 16777215 }
            td := Vector.ofFn fun k => { s.td[k] with pulse := s.td[k].pulse.map fun n => n - 1 } })
        ∧ (dueEvents s = [] → s.resetLow = true → HeldInReset s →
          step s = .next { s with
            resetLow := false
            pi := Vector.ofFn fun p =>
              { s.pi[p] with sdo := if s.pi[p].framing = .idle then none else some true } })
        ∧ (∀ c, dueEvents s = [c] → step s = exec c s)
        ∧ (2 ≤ (dueEvents s).length → ∃ c ∈ dueEvents s, step s = exec c { s with freeCount := s.freeCount + 1 }))
    ∧ ∀ c : Instr, c ∈ dueEvents s ↔
        (∃ line since, c = .runExpiry line ∧ (s.eq.line line).run = some since
          ∧ filterWidth (s.cc.active.widthCode line) ≤ (s.stamp - since).toNat)
        ∨ (∃ n, c = .gapCountExpiry ∧ s.pt.gap = .running n ∧ s.cc.active.standstillLimit < n)
        ∨ (∃ n, c = .standstillExpiry ∧ s.ls.standstill = .running n ∧ s.cc.active.standstillLimit < n)
        ∨ (∃ d, c = .missDeadlineExpiry ∧ s.ag.deadline = some d ∧ d ≤ s.ag.timer)
        ∨ (c = .freeStep ∧ s.ls.lock = .freerun ∧ s.ag.freeRunning = true ∧ s.cc.active.freeRunPeriod ≤ s.ag.timer)
        ∨ (∃ tk rest, c = .ticketDue ∧ s.fs.tickets = tk :: rest ∧ tk.due = s.stamp)
        ∨ ∃ k, c = .pulseEnd k ∧ s.td[k].pulse = some 0

/-- MODEL'S CHOICE (log entries 28 and 5): no command faults or is refused, none touches the queue, and a request that port
p cannot complete changes nothing. -/
def Obligations.EveryCommandAnswersAndKeepsTheQueue : Prop :=
  ∀ (i : Instr) (s : State),
    (∃ t, exec i s = .next t ∧ t.pending = s.pending)
      ∧ ∀ (p : Port) (bytes : List Byte), encodeRequest i = some (p, bytes) → ¬Receives p bytes s → exec i s = .next s

/-! ### Device reset -/

/-- R103, with the reset of FS and TD (06, 07), from any state: so it is from the fall of RESET_n on, and when device reset
ends. MODEL'S CHOICE (log entry 9): the fall is DEVICE_RESET, and the end is the step that finds no command waiting. -/
def Obligations.DeviceResetEmptiesTableListsAndTracks : Prop :=
  ∀ s : State, ∃ held ended : State, exec .deviceReset s = .next held ∧ step { held with pending := [] } = .next ended
    ∧ held.resetLow = true ∧ ended.resetLow = false ∧ held.pending = s.pending
    ∧ ∀ t ∈ [held, ended],
      t.stamp = 0
      ∧ (∀ i : EntryNo, t.ctc.entries[i]
          = ⟨.free, none, ⟨.note, 0, none, none, none, 0, .always, ⟨false, false, false⟩, 0⟩, false, false, none⟩)
      ∧ (∀ p : Port, t.ctc.owned[p] = 0 ∧ t.ctc.quota[p] = 16)
      ∧ (∀ k : TrackNo, t.td[k] = ⟨none, false, 0, none, false, false, false⟩ ∧ t.trackLine k = false)
      ∧ t.fs.tickets = [] ∧ t.fs.deferred = [] ∧ t.fs.deferredCycle = none ∧ t.fs.cycleSeen = 0 ∧ t.fs.overflows = 0
      ∧ (∀ i : EntryNo, t.fs.taken[i] = ⟨false, false⟩)

/-- The reset of EQ, PT, AG, LS, CC, ER and the Port Interfaces (01 to 04, 08 to 10), for the levels the six lines and the
select lines have (log entry 8), from the fall of RESET_n on and when device reset ends (MODEL'S CHOICE of the end, log
entry 9): while RESET_n is low every CPpSDO is at high impedance, and a port whose select line is low when device reset ends
discards its frame. -/
def Obligations.DeviceResetStartsReferenceAndPortsAfresh : Prop :=
  ∀ s : State, ∃ held ended : State, exec .deviceReset s = .next held ∧ step { held with pending := [] } = .next ended
    ∧ ∀ t ∈ [held, ended],
      t.eq.tooth = ⟨s.eq.tooth.raw, s.eq.tooth.raw, none⟩ ∧ t.eq.index = ⟨s.eq.index.raw, s.eq.index.raw, none⟩
      ∧ (∀ n : GateNo, t.eq.gates[n] = ⟨s.eq.gates[n].raw, s.eq.gates[n].raw, none⟩
          ∧ t.eq.active[n] = s.eq.gates[n].raw)
      ∧ (∀ (p : Port) (n : GateNo), t.eq.latches[p][n] = ⟨false, false⟩)
      ∧ t.eq.window = none ∧ t.eq.cycleNoise = 0 ∧ t.eq.totalNoise = 0
      ∧ t.pt.history = [] ∧ t.estimate = none ∧ t.pt.lastEdge = none ∧ t.pt.gap = .absent ∧ t.pt.speedSteps = 0
      ∧ (∀ p : Port, t.pt.stepSeen[p] = ⟨false, false⟩) ∧ t.depth = 1
      ∧ t.ag = ⟨0, 0, false, 0, 0, 0, none, none, 0, false, false, false, 0, 0, 0⟩ ∧ t.angle = none
      ∧ t.ls.lock = .stopped ∧ t.inFiring = false ∧ t.ls.settle = 0 ∧ t.ls.clean = 0 ∧ t.ls.noisy = 0
      ∧ t.ls.indexMiss = 0 ∧ t.ls.holdover = 0 ∧ t.ls.synthInCycle = false ∧ t.ls.closingNoise = 0
      ∧ t.ls.standstill = .absent ∧ t.ls.indexErrors = 0 ∧ (∀ p : Port, t.ls.lockMarks[p] = false)
      ∧ t.cc.holder = none ∧ t.cc.waiting = [] ∧ t.cc.staged = none ∧ t.cc.pendingRecord = none
      ∧ (∀ p : Port, t.cc.claimMarks[p] = false)
      ∧ t.cc.active = ⟨60, .rising, 2, .rising, 2, 32, 8, 2, 60, 1, 4, .eighth, 2, 1, 2, 3, 1, 2000000, 40000,
          #v[⟨true, 2, .never, 0xF0⟩, ⟨true, 2, .never, 0xF1⟩, ⟨true, 2, .never, 0xF2⟩, ⟨true, 2, .never, 0xF3⟩]⟩
      ∧ ∀ p : Port,
          t.er[p].portMask = 0xFF ∧ t.er[p].queue = [] ∧ t.er[p].lost = 0 ∧ t.er[p].watermark = 1 ∧ t.er[p].attnMask = 0
            ∧ (∀ n : SlotNo, t.er[p].slots[n] = ⟨false, 0, 0xFF, 0, false, false⟩
                ∧ t.er[p].latest[n] = ⟨none, false, false, false⟩)
            ∧ t.causes p = 0 ∧ t.attentionLow p = false ∧ marked t p = false
            ∧ t.pi[p].frameErrors = 0 ∧ t.pi[p].bits = [] ∧ t.pi[p].response = []
            ∧ (s.pi[p].framing = .idle → t.pi[p].framing = .idle ∧ t.pi[p].sdo = none)
            ∧ (s.pi[p].framing ≠ .idle →
                t.pi[p].framing = .discarding ∧ t.pi[p].sdo = if t.resetLow = true then none else some true)

/-- R132, R163, R195: while RESET_n is low no command ends the reset and no request is taken: every port is IDLE or
DISCARDING with CPpSDO at high impedance, every attention line is high and every track line low, and only the levels of the
input pins move. That the pins go on being followed is the model's reading (log entry 9). -/
def Obligations.NothingRunsWhileResetIsLow : Prop :=
  ∀ (c : Instr) (s : State), HeldInReset s → s.resetLow = true →
    (∀ (p : Port) (bytes : List Byte), ¬Receives p bytes s)
      ∧ ∃ t, exec c s = .next t
          ∧ (∀ p : Port, (t.pi[p].framing = .idle ∨ t.pi[p].framing = .discarding) ∧ t.pi[p].sdo = none
              ∧ t.pi[p].response = [] ∧ t.pi[p].frameErrors = 0 ∧ t.attentionLow p = false)
          ∧ (∀ k : TrackNo, t.trackLine k = false)
          ∧ (∀ line : LineId, t.eq.line line = ⟨(t.eq.line line).raw, (t.eq.line line).raw, none⟩
              ∧ (t.eq.line line).raw = (match c with
                | .rawLevelChange other level => if other = line then level else (s.eq.line line).raw
                | _ => (s.eq.line line).raw))
          ∧ (∀ p : Port, t.pi[p].framing = (match c with
              | .selectFall q => if q = p then .discarding else s.pi[p].framing
              | .selectRise q => if q = p then .idle else s.pi[p].framing
              | _ => s.pi[p].framing)
            ∧ t.pi[p].sck = (match c with
              | .serialClockEdge q rising _ => if q = p then rising else s.pi[p].sck
              | _ => s.pi[p].sck))
          ∧ t = { s with eq := t.eq, pi := t.pi } ∧ HeldInReset t

/-! ### Filters, edges and gate inputs -/

/-- R2: a change of the raw level starts a run at this moment where the raw level now differs from the filtered one, and
abandons it where it does not, and nothing else changes; with width code 0 it is at once a filtered transition, as if a
run of this moment expired. Where the line has this level already there is no change (MODEL'S CHOICE, log entry 4). -/
def Obligations.RawLevelChangeTimesARunOrPassesAtOnce : Prop :=
  ∀ (line : LineId) (level : Bool) (s : State), s.resetLow = false →
    ((s.eq.line line).raw = level → exec (.rawLevelChange line level) s = .next s)
      ∧ ((s.eq.line line).raw ≠ level → (s.cc.active.widthCode line ≠ 0 ∨ (s.eq.line line).filtered = level) →
          ∃ t, exec (.rawLevelChange line level) s = .next t
            ∧ t.eq.line line = ⟨level, (s.eq.line line).filtered,
                if level = (s.eq.line line).filtered then none else some s.stamp⟩
            ∧ (∀ other, other ≠ line → t.eq.line other = s.eq.line other)
            ∧ t = { s with eq := { s.eq with tooth := t.eq.tooth, index := t.eq.index, gates := t.eq.gates } })
      ∧ ((s.eq.line line).raw ≠ level → s.cc.active.widthCode line = 0 → (s.eq.line line).filtered ≠ level →
          exec (.rawLevelChange line level) s
            = exec (.runExpiry line) (setLine line (fun l => ⟨level, l.filtered, some s.stamp⟩) s))

/-- R4, R5, R7: a TOOTH run that expires with a transition the polarity does not count only moves the filtered level; one
that is an edge within the blanking window is counted twice as noise, saturating, and reaches no other block. -/
def Obligations.ToothRunExpiryThatIsNoRealEdge : Prop :=
  ∀ s : State, runDue .tooth s = true →
    (s.cc.active.toothPolarity.accepts s.eq.tooth.raw = false →
        exec (.runExpiry .tooth) s
          = .next { s with eq := { s.eq with tooth := ⟨s.eq.tooth.raw, s.eq.tooth.raw, none⟩ } })
      ∧ (s.cc.active.toothPolarity.accepts s.eq.tooth.raw = true → inBlanking s = true →
          exec (.runExpiry .tooth) s
            = .next { s with eq := { s.eq with
                tooth := ⟨s.eq.tooth.raw, s.eq.tooth.raw, none⟩
                cycleNoise := min (s.eq.cycleNoise + 1) 65535
                totalNoise := min (s.eq.totalNoise + 1) 65535 } })

/-- R4, R9, R45: an INDEX run that expires moves the filtered level; where the polarity counts the transition, the edge sets
index-pending, or counts as an extra index, or is discarded in STOPPED and FREERUN; nothing else changes. -/
def Obligations.IndexRunExpiryIsAnIndexArrival : Prop :=
  ∀ s : State, runDue .index s = true →
    ∃ t : State, t = { s with eq := { s.eq with index := ⟨s.eq.index.raw, s.eq.index.raw, none⟩ } }
      ∧ (s.cc.active.indexPolarity.accepts s.eq.index.raw = false → exec (.runExpiry .index) s = .next t)
      ∧ (s.cc.active.indexPolarity.accepts s.eq.index.raw = true →
          exec (.runExpiry .index) s = .next
            (if s.ls.lock = .stopped ∨ s.ls.lock = .freerun then t
            else if s.ag.indexPending = true then
              { t with ag := { t.ag with indexNoise := min (s.ag.indexNoise + 1) 65535 } }
            else { t with ag := { t.ag with indexPending := true } }))

/-- R10 to R12, R14: a change of a gate input's active state sets the change latch of that input at every port, removes
its marks, and posts an INPUT event if the event enable matches; nothing else changes. -/
def Obligations.GateRunExpiryLatchesAndPostsTheChange : Prop :=
  ∀ (n : GateNo) (s : State), runDue (.gate n) s = true →
    ∃ active : Bool, active = (s.eq.gates[n].raw == s.cc.active.gates[n].activeHigh)
      ∧ ∃ settled : State,
          settled = { s with eq := { s.eq with
            gates := s.eq.gates.set n.val ⟨s.eq.gates[n].raw, s.eq.gates[n].raw, none⟩ } }
          ∧ (active = s.eq.active[n] → exec (.runExpiry (.gate n)) s = .next settled)
          ∧ (active ≠ s.eq.active[n] →
              ∃ changed : State,
                changed = { settled with eq := { settled.eq with
                  active := s.eq.active.set n.val active
                  latches := Vector.ofFn fun p : Port => s.eq.latches[p].set n.val ⟨true, false⟩ } }
                ∧ exec (.runExpiry (.gate n)) s = .next
                    (if s.cc.active.gates[n].event.admits active = true then
                      post ⟨.input, false, false, active, s.cc.active.gates[n].tag, n.val, none, s.cycleIfValid, s.angle,
                        s.stamp⟩ changed
                    else changed))

/-! ### Real edges -/

/-- R17, R19 to R21, every row of the table of R17: a closed interval that is a speed step becomes the history's only member,
is counted and is seen at every port; one that is not joins the history, which keeps the newest intervals up to the depth
in force; an expired gap count flushes the history; a synthesized tooth leaves it; a first edge starts the measurement. -/
def Obligations.RealEdgeIsMeasured : Prop :=
  ∀ s : State,
    (s.pt.lastEdge = none →
        trackEdge s = { s with pt := { s.pt with lastEdge := some s.stamp, gap := .running 0 } })
      ∧ (∀ e, s.pt.lastEdge = some e →
          (s.pt.gap = .expired ∨ ∃ n, s.pt.gap = .running n ∧ s.cc.active.standstillLimit < n) →
          trackEdge s = { s with pt := { s.pt with lastEdge := some s.stamp, gap := .running 0, history := [] } })
      ∧ ∀ e n, s.pt.lastEdge = some e → s.pt.gap = .running n → n ≤ s.cc.active.standstillLimit →
          (s.ag.synthSinceReal = true →
              trackEdge s = { s with pt := { s.pt with lastEdge := some s.stamp, gap := .running 0 } })
            ∧ (s.ag.synthSinceReal = false → 0 < n → isSpeedStep s.cc.active s.estimate n = true →
                trackEdge s = { s with pt := { s.pt with
                  lastEdge := some s.stamp
                  gap := .running 0
                  history := [n]
                  speedSteps := min (s.pt.speedSteps + 1) 65535
                  stepSeen := Vector.replicate 4 ⟨true, false⟩ } })
            ∧ (s.ag.synthSinceReal = false → 0 < n → isSpeedStep s.cc.active s.estimate n = false →
                trackEdge s = { s with pt := { s.pt with
                  lastEdge := some s.stamp
                  gap := .running 0
                  history := (s.pt.history ++ [n]).drop (s.pt.history.length + 1 - s.depth) } })

/-- R5, R6, R38, R52, R57: a real edge that makes no step. It is measured (RealEdgeIsMeasured says how), opens a blanking
window of floor(E × B / 128) pu at its stamp where there is an estimate and the length is not 0, restarts the standstill
timer and clears the synthesized-since-real flag. In FREERUN, and in SEARCH while index-pending is clear, nothing else
changes. In STOPPED it also takes the hub to SEARCH, which leaves no history, no window and no noise count, and sets the
LOCK cause at every port. -/
def Obligations.RealEdgesWithoutAStep : Prop :=
  ∀ s : State, runDue .tooth s = true → s.cc.active.toothPolarity.accepts s.eq.tooth.raw = true → inBlanking s = false →
    ∃ (tooth : FilterLine) (window : Option BlankingWindow),
      tooth = ⟨s.eq.tooth.raw, s.eq.tooth.raw, none⟩
        ∧ window = windowOpened s.stamp s.cc.active.blanking (trackEdge s).estimate
        ∧ (s.ls.lock = .freerun ∨ (s.ls.lock = .search ∧ s.ag.indexPending = false) →
            exec (.runExpiry .tooth) s = .next { trackEdge s with
              eq := { s.eq with tooth := tooth, window := window }
              ls := { s.ls with standstill := .running 0 }
              ag := { s.ag with synthSinceReal := false } })
        ∧ (s.ls.lock = .stopped →
            exec (.runExpiry .tooth) s = .next { trackEdge s with
              eq := { s.eq with tooth := tooth, window := none, cycleNoise := 0 }
              pt := { (trackEdge s).pt with history := [] }
              ls := { s.ls with
                lock := .search
                settle := 0
                clean := 0
                noisy := 0
                indexMiss := 0
                synthInCycle := false
                standstill := .running 0
                lockMarks := Vector.replicate 4 false }
              ag := { invalidAngle s.ag with synthSinceReal := false }
              er := lockCaused true s.er })

/-- R6, R38, R43, R44: a real edge within the late window anchors the synthesized tooth: it is measured, opens a blanking
window, restarts the standstill timer, counts a late tooth and sets a new deadline; no step is made and nothing else
changes. -/
def Obligations.LateAcceptanceAnchorsTheTooth : Prop :=
  ∀ (w : Nat) (s : State), runDue .tooth s = true → s.cc.active.toothPolarity.accepts s.eq.tooth.raw = true →
    inBlanking s = false → (s.ls.lock = .acquire ∨ s.ls.lock = .locked ∨ s.ls.lock = .holdover) →
      s.ag.lateWindow = some w → s.ag.timer < w → s.ag.valid = true →
        exec (.runExpiry .tooth) s = .next { trackEdge s with
          eq := { s.eq with
            tooth := ⟨s.eq.tooth.raw, s.eq.tooth.raw, none⟩
            window := windowOpened s.stamp s.cc.active.blanking (trackEdge s).estimate }
          ls := { s.ls with standstill := .running 0 }
          ag := { s.ag with
            toothStart := s.stamp
            timer := 0
            missCount := 0
            synthSinceReal := false
            lateWindow := none
            lateTeeth := min (s.ag.lateTeeth + 1) 65535
            deadline := (trackEdge s).estimate.map fun e => min (e * (16 + s.cc.active.missMargin) / 16) 16777215 } }

/-- R6, R7, R35, R36, R39, R46, R47, R59 to R69: a REAL step. Outside the late window a real edge, once measured, opens a
blanking window, takes the tooth index on by one, or to 0 where index-pending finds another tooth, and anchors the new
tooth at the edge; at tooth 0 the cycle noise count is handed over, and LS judges the cycle and moves the lock state. Then
FS handles the step. Where no commit waits, FS leaves what the other blocks have reached. -/
def Obligations.RealStepAdvancesTheTooth : Prop :=
  ∀ s : State, runDue .tooth s = true → s.cc.active.toothPolarity.accepts s.eq.tooth.raw = true →
    inBlanking s = false → (s.ls.lock = .acquire ∨ s.ls.lock = .locked ∨ s.ls.lock = .holdover) →
      inLateWindow s = false → s.ag.valid = true →
        ∃ (t u : State) (k : Nat) (cycle : Cycle) (rep : StepReport),
          k = (if s.ag.indexPending = true then 0 else (s.ag.tooth + 1) % s.cc.active.toothCount)
          ∧ cycle = (if k = 0 then s.ag.cycle + 1 else s.ag.cycle)
          ∧ rep = ⟨.real, k, cycle, s.stamp, 0,
              if s.ag.indexPending = true then
                if (s.ag.tooth + 1) % s.cc.active.toothCount = 0 then .matched else .mismatch
              else if k = 0 then .miss else .unchecked⟩
          ∧ u.ls = lockAfter s.cc.active rep { s.ls with
              standstill := .running 0
              closingNoise := if k = 0 then s.eq.cycleNoise else s.ls.closingNoise }
          ∧ u = { trackEdge s with
              eq := { s.eq with
                tooth := ⟨s.eq.tooth.raw, s.eq.tooth.raw, none⟩
                window := windowOpened s.stamp s.cc.active.blanking (trackEdge s).estimate
                cycleNoise := if k = 0 then 0 else s.eq.cycleNoise }
              ag := { s.ag with
                tooth := k
                cycle := cycle
                toothStart := s.stamp
                base := k * 3600 / s.cc.active.toothCount
                timer := 0
                missCount := 0
                synthSinceReal := false
                indexPending := false
                lateWindow := none
                deadline := (trackEdge s).estimate.map fun e => min (e * (16 + s.cc.active.missMargin) / 16) 16777215 }
              pt := { (trackEdge s).pt with
                history := trimmed s.cc.active s.ls.lock u.ls.lock (trackEdge s).pt.history }
              ls := u.ls
              er := lockCaused (lockTold s.ls u.ls) s.er }
          ∧ exec (.runExpiry .tooth) s = .next t
          ∧ t = schedulerStep applyPending rep (handedOn s u)
          ∧ (s.cc.pendingRecord = none → t.ag = u.ag ∧ t.ls = u.ls ∧ t.pt = u.pt ∧ t.eq = u.eq ∧ t.cc = s.cc)
          ∧ t.stamp = s.stamp ∧ t.pi = s.pi ∧ t.pending = s.pending

/-- R6, R7, R46, R62, R69, R108: in SEARCH with index-pending set a real edge makes the step ALIGN: tooth 0, the angle valid,
the cycle number kept, a blanking window and a deadline from the estimate, the noise count handed over and set aside, and
the state ACQUIRE, with the LOCK cause set at every port; FS takes the cycle seen and fires nothing. MODEL'S READING (log
entry 23, DEDUCED): the deferred list, which is empty, keeps no recorded cycle. -/
def Obligations.AlignMakesTheAngleValid : Prop :=
  ∀ s : State, runDue .tooth s = true → s.cc.active.toothPolarity.accepts s.eq.tooth.raw = true →
    inBlanking s = false → s.ls.lock = .search → s.ag.indexPending = true → QuietOutsideFiring s →
      exec (.runExpiry .tooth) s = .next { trackEdge s with
        eq := { s.eq with
          tooth := ⟨s.eq.tooth.raw, s.eq.tooth.raw, none⟩
          window := windowOpened s.stamp s.cc.active.blanking (trackEdge s).estimate
          cycleNoise := 0 }
        ls := { s.ls with
          lock := .acquire
          settle := 0
          clean := 0
          synthInCycle := false
          closingNoise := s.eq.cycleNoise
          standstill := .running 0
          lockMarks := Vector.replicate 4 false }
        ag := { s.ag with
          valid := true
          tooth := 0
          base := 0
          timer := 0
          toothStart := s.stamp
          missCount := 0
          synthSinceReal := false
          indexPending := false
          lateWindow := none
          deadline := (trackEdge s).estimate.map fun e => min (e * (16 + s.cc.active.missMargin) / 16) 16777215 }
        er := lockCaused true s.er
        fs := { s.fs with
          deferredCycle := none
          taken := if s.ag.cycle = s.fs.cycleSeen then s.fs.taken else Vector.replicate 64 ⟨false, false⟩
          cycleSeen := s.ag.cycle } }

/-! ### Timed events -/

/-- R18, R141: a gap count that exceeds the standstill limit holds the expired condition, and a pulse that has run out ends;
each at its own event, and nothing else changes. MODEL'S CHOICE: an event whose condition does not hold (a count at the
limit, a pulse with time left) does nothing (log entry 4), and a pulse stands at 0 until its event (log entry 13). -/
def Obligations.RunOutCountsAndPulsesEnd : Prop :=
  ∀ (n : Nat) (k : TrackNo) (s : State),
    (s.pt.gap = .running n → s.cc.active.standstillLimit < n →
        exec .gapCountExpiry s = .next { s with pt := { s.pt with gap := .expired } })
      ∧ (s.pt.gap = .running n → n ≤ s.cc.active.standstillLimit → exec .gapCountExpiry s = .next s)
      ∧ (s.td[k].pulse = some 0 →
          exec (.pulseEnd k) s = .next { s with td := s.td.set k.val { s.td[k] with pulse := none } })
      ∧ (s.td[k].pulse ≠ some 0 → exec (.pulseEnd k) s = .next s)

/-- R58, R68: the timer's expiry takes SEARCH or ACQUIRE to STOPPED with the effects of that entry, sets the LOCK cause at
every port, and leaves the rest. In STOPPED and FREERUN, and in LOCKED and HOLDOVER while a miss deadline is kept, it moves
no state; without one it takes them to SEARCH, with the loss teardown from the firing set, and so, the timer being
expired, to STOPPED (where no commit waits). -/
def Obligations.StandstillExpiryStopsSearchAndAcquire : Prop :=
  ∀ (n : Nat) (s : State), s.ls.standstill = .running n → s.cc.active.standstillLimit < n →
    ((s.ls.lock = .stopped ∨ s.ls.lock = .freerun
        ∨ (s.ls.lock = .locked ∨ s.ls.lock = .holdover) ∧ s.ag.deadline ≠ none) →
          exec .standstillExpiry s = .next { s with ls := { s.ls with standstill := .expired } })
    ∧ ((s.ls.lock = .search ∨ s.ls.lock = .acquire) →
        exec .standstillExpiry s = .next { s with
          ls := ⟨.stopped, 0, 0, 0, 0, s.ls.holdover, false, s.ls.closingNoise, .expired, s.ls.indexErrors,
            Vector.replicate 4 false⟩
          ag := invalidAngle s.ag
          pt := { s.pt with history := [] }
          eq := { s.eq with cycleNoise := 0, window := none }
          er := lockCaused true s.er })
    ∧ ((s.ls.lock = .locked ∨ s.ls.lock = .holdover) → s.ag.deadline = none → s.cc.pendingRecord = none →
      ∃ t, exec .standstillExpiry s = .next t
        ∧ t.ls.lock = .stopped ∧ t.ls.standstill = .expired ∧ t.ls.settle = 0 ∧ t.ls.clean = 0 ∧ t.ls.noisy = 0
        ∧ t.ls.indexMiss = 0 ∧ t.ag = invalidAngle s.ag ∧ t.pt = { s.pt with history := [] }
        ∧ t.eq = { s.eq with cycleNoise := 0, window := none }
        ∧ (s.inFiring = true → t.fs.tickets = [] ∧ t.fs.deferred = [] ∧ ∀ i : EntryNo, t.ctc.entries[i].windowOpen = false)
        ∧ (s.inFiring = false → t.fs = s.fs ∧ t.ctc = s.ctc ∧ t.td = s.td ∧ t.er = lockCaused true s.er)
        ∧ (∀ p : Port, t.er[p].lockCause = true) ∧ t.cc = s.cc ∧ t.pi = s.pi ∧ t.stamp = s.stamp
        ∧ t.pending = s.pending)

/-- R35, R36, R39, R41, R46, R47, R56, R58 to R69: the miss deadline's expiry makes a SYNTH step: the tooth index goes on by
one, or to 0 where index-pending finds another tooth; the misses are counted, the late window opens and the deadline is the
estimate; LS judges the step and moves the lock state, and a fall to SEARCH makes the angle invalid and flushes the
history. Then FS handles the step. Where no commit waits, FS leaves what the other blocks have reached, but that an entry
into SEARCH or ACQUIRE with the timer expired goes on to STOPPED. MODEL'S READING (log entry 18, DEDUCED): where a commit
waits, that timer is looked at after the loss teardown has applied the commit. -/
def Obligations.MissDeadlineExpirySynthesizesATooth : Prop :=
  ∀ (d : Nat) (s : State), s.ag.deadline = some d → d ≤ s.ag.timer → s.ag.valid = true →
    (s.ls.lock = .acquire ∨ s.ls.lock = .locked ∨ s.ls.lock = .holdover) →
      ∃ (t u v : State) (k : Nat) (cycle : Cycle) (rep : StepReport) (stepped : AngleGenerator),
        k = (if s.ag.indexPending = true then 0 else (s.ag.tooth + 1) % s.cc.active.toothCount)
        ∧ cycle = (if k = 0 then s.ag.cycle + 1 else s.ag.cycle)
        ∧ rep = ⟨.synth, k, cycle, s.stamp, min (s.ag.missCount + 1) 65535,
            if s.ag.indexPending = true then
              if (s.ag.tooth + 1) % s.cc.active.toothCount = 0 then .matched else .mismatch
            else if k = 0 then .miss else .unchecked⟩
        ∧ stepped = { s.ag with
            tooth := k
            cycle := cycle
            toothStart := s.stamp
            timer := 0
            base := k * 3600 / s.cc.active.toothCount
            indexPending := false
            missCount := min (s.ag.missCount + 1) 65535
            totalMisses := min (s.ag.totalMisses + 1) 65535
            synthSinceReal := true
            lateWindow := s.estimate.bind fun e => if e / 2 = 0 then none else some (e / 2)
            deadline := s.estimate.map fun e => min e 16777215 }
        ∧ u.ls = lockAfter s.cc.active rep { s.ls with
            closingNoise := if k = 0 then s.eq.cycleNoise else s.ls.closingNoise }
        ∧ u = { s with
            ls := u.ls
            ag := if u.ls.lock = .search then invalidAngle stepped else stepped
            pt := { s.pt with
              history := if u.ls.lock = .search then [] else trimmed s.cc.active s.ls.lock u.ls.lock s.pt.history }
            eq := { s.eq with
              cycleNoise := if k = 0 ∨ u.ls.lock = .search then 0 else s.eq.cycleNoise
              window := if u.ls.lock = .search then none else s.eq.window }
            er := lockCaused (lockTold s.ls u.ls) s.er }
        ∧ v = (if u.ls.lock ≠ s.ls.lock ∧ (u.ls.lock = .search ∨ u.ls.lock = .acquire) ∧ u.ls.standstill = .expired then
            onToStopped u else u)
        ∧ exec .missDeadlineExpiry s = .next t
        ∧ t = schedulerStep applyPending rep (handedOn s u)
        ∧ (s.cc.pendingRecord = none → t.ag = v.ag ∧ t.ls = v.ls ∧ t.pt = v.pt ∧ t.eq = v.eq ∧ t.cc = s.cc)
        ∧ t.stamp = s.stamp ∧ t.pi = s.pi ∧ t.pending = s.pending

/-- R66, R127: a SYNTH step whose count passes the miss limit takes LOCKED to HOLDOVER, which is in the firing set, and
sets the LOCK cause at every port; the streaks stay. On the way FS drops the points of LIVE entries with PAUSE, without
firing them or setting their marks, and force-closes their open windows in index order, which spends a spent one; entries
without PAUSE are left, with their tickets, deferred points and windows. -/
def Obligations.TooManyMissesEnterHoldover : Prop :=
  (∀ (d : Nat) (s : State), s.ag.deadline = some d → d ≤ s.ag.timer → s.ls.lock = .locked → s.ag.valid = true →
    s.ag.indexPending = false → s.ag.tooth + 1 < s.cc.active.toothCount →
      s.cc.active.missLimit < s.ag.missCount + 1 → s.ag.missCount < 65535 →
        ∃ t, exec .missDeadlineExpiry s = .next t
          ∧ t.ls.lock = .holdover ∧ t.inFiring = true ∧ t.ls.holdover = 0 ∧ t.ls.settle = 0
          ∧ t.ls.clean = s.ls.clean ∧ t.ls.noisy = s.ls.noisy ∧ t.ls.indexMiss = s.ls.indexMiss
          ∧ (∀ p : Port, t.er[p].lockCause = true) ∧ t.cc = s.cc ∧ t.pi = s.pi ∧ t.pending = s.pending)
    ∧ ∀ s : State, ∃ paused : EntryNo → Bool,
        (∀ i, paused i = true ↔ s.ctc.entries[i].state = .live ∧ s.ctc.entries[i].image.flags.pause = true)
          ∧ holdoverDiscard s = { postAll (forcedCloses true paused s) s with
              fs := { s.fs with
                tickets := s.fs.tickets.filter fun u => !paused u.entry
                deferred := s.fs.deferred.filter fun d => !paused d.entry }
              ctc := { s.ctc with
                entries := Vector.ofFn fun i =>
                  if (paused i && s.ctc.entries[i].windowOpen) = true then
                    { s.ctc.entries[i] with
                      windowOpen := false
                      state := if s.ctc.entries[i].spent = true then .held else .live }
                  else s.ctc.entries[i] }
              td := Vector.ofFn fun k => { s.td[k] with windowCount := s.td[k].windowCount - windowsOn paused s k } }

/-- R35, R51, R71: in FREERUN the free-run generator takes the tooth index on by one at the period, anchors the new tooth at
this moment, and counts a cycle at tooth 0, where the noise count is handed over and set aside; LS judges nothing. Then FS
handles the step. Where no commit waits, FS leaves what the other blocks have reached. -/
def Obligations.FreeStepAdvancesTheTooth : Prop :=
  ∀ s : State, s.ls.lock = .freerun → s.ag.freeRunning = true → s.ag.valid = true →
    s.cc.active.freeRunPeriod ≤ s.ag.timer →
      ∃ (t u : State) (k : Nat) (cycle : Cycle),
        k = (s.ag.tooth + 1) % s.cc.active.toothCount
        ∧ cycle = (if k = 0 then s.ag.cycle + 1 else s.ag.cycle)
        ∧ u = { s with
            ag := { s.ag with
              tooth := k
              cycle := cycle
              toothStart := s.stamp
              base := k * 3600 / s.cc.active.toothCount
              timer := 0 }
            ls := { s.ls with closingNoise := if k = 0 then s.eq.cycleNoise else s.ls.closingNoise }
            eq := { s.eq with cycleNoise := if k = 0 then 0 else s.eq.cycleNoise } }
        ∧ exec .freeStep s = .next t
        ∧ t = schedulerStep applyPending ⟨.free, k, cycle, s.stamp, s.ag.missCount, .unchecked⟩ u
        ∧ (s.cc.pendingRecord = none → t.ag = u.ag ∧ t.ls = u.ls ∧ t.pt = s.pt ∧ t.eq = u.eq ∧ t.cc = s.cc)
        ∧ t.stamp = s.stamp ∧ t.pi = s.pi ∧ t.pending = s.pending

/-- R105 to R108, R110 to R113, R126: what FS leaves of a step, where no commit waits: the step's cycle is the cycle seen;
outside the firing set both lists are empty. Inside it every ticket is a point of the tooth from a(k) to a(k + 1), past its
start, placed at this step with this cycle and due floor(P × d / span) pu after it, at most 24 of them in their order, the
deferred points in theirs; and every point of that tooth of an entry that may fire (LIVE, in HOLDOVER without PAUSE) is
taken, or on a list, or the START of a spent WINDOW. -/
def Obligations.StepLeavesOnlyTheNewToothsTickets : Prop :=
  ∀ (rep : StepReport) (s : State), s.cc.pendingRecord = none →
    ∃ (t : State) (begins ends : Nat), t = schedulerStep applyPending rep s
      ∧ begins = rep.tooth * 3600 / s.cc.active.toothCount ∧ ends = (rep.tooth + 1) * 3600 / s.cc.active.toothCount
      ∧ t.fs.cycleSeen = rep.cycle
      ∧ (∀ u ∈ t.fs.tickets, u.cycle = s.ag.cycle
          ∧ ∃ a p, pointAngleOf t.ctc.entries[u.entry] u.point = some a ∧ begins < a ∧ a < ends ∧ s.period = some p
            ∧ u.due = s.stamp + BitVec.ofNat 24 (p * (a - begins) / (ends - begins)))
      ∧ t.fs.tickets.length ≤ 24 ∧ ticketsOrdered s.stamp t.fs.tickets ∧ deferredOrdered t.fs.deferred
      ∧ (∀ d ∈ t.fs.deferred, ∃ a, pointAngleOf t.ctc.entries[d.entry] d.point = some a ∧ begins < a ∧ a < ends)
      ∧ (s.inFiring = true → ∀ (i : EntryNo) (pt : Point) (a : Nat), t.ctc.entries[i].state = .live →
          (s.ls.lock = .holdover → t.ctc.entries[i].image.flags.pause = false) →
            pointAngleOf t.ctc.entries[i] pt = some a → begins ≤ a → a < ends →
              isTaken t i pt ∨ isListed t i pt ∨ isSpentStart t.ctc.entries[i] pt)
      ∧ (s.inFiring = false → t.fs.tickets = [] ∧ t.fs.deferred = []) ∧ t.stamp = s.stamp
      ∧ t.ag = s.ag ∧ t.ls = s.ls ∧ t.pt = s.pt ∧ t.eq = s.eq ∧ t.cc = s.cc ∧ t.pi = s.pi ∧ t.pending = s.pending

/-- R105 to R109: a step at the scheduler. While a ticket is on the list, the first is taken off and its point fired LATE at
the start angle of the tooth entered, with the ticket's cycle; then the deferred points in the same way, with the cycle
their list recorded; then a new cycle number clears the taken marks and is the cycle seen, at a tooth-0 step in the firing
set the ARMING entries become LIVE and the pending commit is applied, and the tooth is enumerated from a(k) to a(k + 1)
where the state is in the firing set. MODEL'S READING (log entry 23, DEDUCED): once the deferred list is empty its recorded
cycle is absent. -/
def Obligations.StepFiresWhatIsLeftLate : Prop :=
  ∀ (rep : StepReport) (s : State),
    ∃ begins : Nat, begins = rep.tooth * 3600 / s.cc.active.toothCount
      ∧ (∀ tk rest, s.fs.tickets = tk :: rest →
          schedulerStep applyPending rep s
            = schedulerStep applyPending rep (fire ⟨true, false, some tk.cycle, some begins⟩ tk.entry tk.point
                { s with fs := { s.fs with tickets := rest } }))
      ∧ (∀ d rest, s.fs.tickets = [] → s.fs.deferred = d :: rest →
          schedulerStep applyPending rep s
            = schedulerStep applyPending rep (fire ⟨true, false, s.fs.deferredCycle, some begins⟩ d.entry d.point
                { s with fs := { s.fs with deferred := rest } }))
      ∧ (s.fs.tickets = [] → s.fs.deferred = [] →
          ∃ (seen applied : State),
            seen = { s with fs := { s.fs with
              deferredCycle := none
              taken := if rep.cycle = s.fs.cycleSeen then s.fs.taken else Vector.replicate 64 ⟨false, false⟩
              cycleSeen := rep.cycle } }
            ∧ applied = (if rep.tooth = 0 ∧ s.inFiring = true then
                applyPending { seen with ctc := { s.ctc with
                  entries := Vector.ofFn fun i =>
                    if s.ctc.entries[i].state = .arming then { s.ctc.entries[i] with state := .live }
                    else s.ctc.entries[i] } }
              else seen)
            ∧ schedulerStep applyPending rep s
              = (if applied.inFiring = true then
                  enumerate (rep.tooth * 3600 / applied.cc.active.toothCount)
                    ((rep.tooth + 1) * 3600 / applied.cc.active.toothCount) applied
                else applied))

/-- R110 to R113: the enumeration of a tooth from angle b to its end. The entries that may fire (LIVE, in HOLDOVER without
PAUSE) are taken in index order, END before START, with the period read once. A point outside the tooth, taken, on a list,
or the START of a spent WINDOW is passed over; a point at b is fired at once, not LATE; a point past it becomes a ticket
due floor(P × d / span) pu from now, at its place on the list; where the list holds 24 it is deferred and counted, and
where there is no period it is deferred and not counted; the first deferred point records the cycle. -/
def Obligations.EnumerationPlacesEachPoint : Prop :=
  ∀ (b ends : Nat) (period : Option Nat) (s : State),
    enumerate b ends s = (List.finRange 64).foldl
        (fun u i =>
          if u.ctc.entries[i].state = .live ∧ (u.ls.lock = .holdover → u.ctc.entries[i].image.flags.pause = false) then
            enumeratePoint b ends s.period i .start (enumeratePoint b ends s.period i .stop u)
          else u) s
      ∧ ∀ (i : EntryNo) (pt : Point) (e : Entry), e = s.ctc.entries[i] →
        ((pointAngleOf e pt = none ∨ (∃ a, pointAngleOf e pt = some a ∧ (a < b ∨ ends ≤ a)) ∨ isTaken s i pt
            ∨ isListed s i pt ∨ isSpentStart e pt) → enumeratePoint b ends period i pt s = s)
        ∧ ∀ a, pointAngleOf e pt = some a → b ≤ a → a < ends → ¬isTaken s i pt → ¬isListed s i pt → ¬isSpentStart e pt →
          (a = b → enumeratePoint b ends period i pt s = fire ⟨false, false, some s.ag.cycle, s.angle⟩ i pt s)
          ∧ (∀ p, b < a → period = some p → s.fs.tickets.length < 24 →
              ∃ list, list.Perm (⟨i, pt, s.stamp + BitVec.ofNat 24 (p * (a - b) / (ends - b)), s.ag.cycle⟩ :: s.fs.tickets)
                ∧ (ticketsOrdered s.stamp s.fs.tickets → ticketsOrdered s.stamp list)
                ∧ enumeratePoint b ends period i pt s = { s with fs := { s.fs with tickets := list } })
          ∧ (b < a → (period = none ∨ 24 ≤ s.fs.tickets.length) →
              ∃ list, list.Perm (⟨i, pt⟩ :: s.fs.deferred) ∧ (deferredOrdered s.fs.deferred → deferredOrdered list)
                ∧ enumeratePoint b ends period i pt s = { s with fs := { s.fs with
                    deferred := list
                    deferredCycle := if s.fs.deferred = [] then some s.ag.cycle else s.fs.deferredCycle
                    overflows := if period = none then s.fs.overflows else min (s.fs.overflows + 1) 65535 } })

/-- R128: FREERUN_ON at the scheduler, on the tooth in progress from its new base angle b. While a ticket on the list has its
point below b, the first such is taken off and fired LATE at angle b, with its cycle; then the tickets that are left take
due times in the free-run period and stand in their order anew, and the rest of the tooth is enumerated from b. -/
def Obligations.FreerunOnRetimesTheTooth : Prop :=
  ∀ s : State, (∀ u ∈ s.fs.tickets, pointAngleOf s.ctc.entries[u.entry] u.point ≠ none) →
    ∃ b ends : Nat, b = s.ag.base ∧ ends = (s.ag.tooth + 1) * 3600 / s.cc.active.toothCount
      ∧ (∀ tk before rest a, s.fs.tickets = before ++ tk :: rest →
          pointAngleOf s.ctc.entries[tk.entry] tk.point = some a → a < b →
            (∀ u ∈ before, ∀ x, pointAngleOf s.ctc.entries[u.entry] u.point = some x → b ≤ x) →
              freerunRetime s = freerunRetime (fire ⟨true, false, some tk.cycle, some b⟩ tk.entry tk.point
                { s with fs := { s.fs with tickets := before ++ rest } }))
      ∧ ((∀ u ∈ s.fs.tickets, ∀ x, pointAngleOf s.ctc.entries[u.entry] u.point = some x → b ≤ x) →
          ∃ list, list.Perm (s.fs.tickets.map fun u => { u with
              due := s.stamp + BitVec.ofNat 24 (s.cc.active.freeRunPeriod
                * ((pointAngleOf s.ctc.entries[u.entry] u.point).getD 0 - b) / (ends - b)) })
            ∧ ticketsOrdered s.stamp list
            ∧ freerunRetime s = enumerate b ends { s with fs := { s.fs with tickets := list } })

/-! ### Firing -/

/-- R116, R117, R121, R98, R120, R122, R114: the START of a NOTE, SET, CLEAR or PULSE entry whose gate is satisfied, fired
from a due ticket, LATE at a step or at once: the track action, the FIRE event unless QUIET, the last fired cycle and the
count; nothing else changes. The START that uses the last count also spends the entry: HELD with spent set, none of its
points on a list, and SPENT posted unless QUIET. -/
def Obligations.SatisfiedStartFiresAPointAction : Prop :=
  ∀ (o : Occasion) (i : EntryNo) (e : Entry) (s : State), e = s.ctc.entries[i] → e.state = .live →
    e.image.action ≠ .window → gateSatisfied s e.image.gate = true →
      ∃ acted : State,
        acted = { s with
          fs := { s.fs with taken := s.fs.taken.set i.val { s.fs.taken[i] with start := true } }
          td := match e.image.action, e.image.track, e.image.width with
            | .set, some k, _ => s.td.set k.val { s.td[k] with latch := true }
            | .clear, some k, _ => s.td.set k.val { s.td[k] with latch := false }
            | .pulse, some k, some w => s.td.set k.val { s.td[k] with pulse := some (4 * w) }
            | _, _, _ => s.td }
        ∧ (e.image.count ≠ 1 → FiresTo o i .start s { reported .fire o i e acted with ctc := { s.ctc with
            entries := s.ctc.entries.set i.val
              { e with lastFired := o.cycle, image := { e.image with count := e.image.count - 1 } } } })
        ∧ (e.image.count = 1 →
            FiresTo o i .start s { reported .spent { o with forced := false } i e (reported .fire o i e acted) with
              ctc := { s.ctc with
                entries := s.ctc.entries.set i.val
                  { e with
                    state := .held
                    spent := true
                    lastFired := o.cycle
                    image := { e.image with count := 0 } } }
              fs := { acted.fs with
                tickets := s.fs.tickets.filter fun u => u.entry ≠ i
                deferred := s.fs.deferred.filter fun d => d.entry ≠ i } })

/-- R116, R117, R118: a START that its gate refuses sets its taken mark and changes no track, no window and neither the count
nor the last fired cycle; a GATED event is posted for an entry with REPORT_GATED and not QUIET. The START of a WINDOW that
finds its window open is dropped: it sets its taken mark and nothing else, whatever the gate. -/
def Obligations.RefusedAndDroppedStarts : Prop :=
  ∀ (o : Occasion) (i : EntryNo) (e : Entry) (s : State), e = s.ctc.entries[i] → e.state = .live →
    ∃ taken : State,
      taken = { s with fs := { s.fs with taken := s.fs.taken.set i.val { s.fs.taken[i] with start := true } } }
        ∧ ((e.image.action = .window → e.windowOpen = false) → gateSatisfied s e.image.gate = false →
            FiresTo o i .start s (if e.image.flags.reportGated = true then reported .gated o i e taken else taken))
        ∧ (e.image.action = .window → e.windowOpen = true → FiresTo o i .start s taken)

/-- R118, R98, R99: a satisfied START of a closed WINDOW opens it, adds one to its track's window count, posts OPEN unless
QUIET, and counts; the last count sets spent and leaves the entry LIVE. Nothing else changes. -/
def Obligations.SatisfiedStartOpensTheWindow : Prop :=
  ∀ (o : Occasion) (i : EntryNo) (e : Entry) (s : State), e = s.ctc.entries[i] → e.state = .live →
    e.image.action = .window → e.windowOpen = false → gateSatisfied s e.image.gate = true →
      FiresTo o i .start s { reported .opened o i e s with
        fs := { s.fs with taken := s.fs.taken.set i.val { s.fs.taken[i] with start := true } }
        td := match e.image.track with
          | none => s.td
          | some k => s.td.set k.val { s.td[k] with windowCount := s.td[k].windowCount + 1 }
        ctc := { s.ctc with
          entries := s.ctc.entries.set i.val { e with
            windowOpen := true
            spent := e.spent || e.image.count == 1
            lastFired := o.cycle
            image := { e.image with count := e.image.count - 1 } } } }

/-- R119, R120, R122: the END of an open WINDOW closes it, takes one from its track's window count and posts CLOSE unless
QUIET; a spent one then becomes HELD, loses every point on both lists, and posts SPENT unless QUIET. An END that finds the
window closed only sets its taken mark. Nothing else changes; the count and the last fired cycle are not touched. -/
def Obligations.EndClosesTheWindow : Prop :=
  ∀ (o : Occasion) (i : EntryNo) (e : Entry) (s : State), e = s.ctc.entries[i] → e.state = .live →
    e.image.action = .window →
      ∃ taken closed : State,
        taken = { s with fs := { s.fs with taken := s.fs.taken.set i.val { s.fs.taken[i] with stop := true } } }
        ∧ closed = { reported .close o i e taken with
            td := match e.image.track with
              | none => s.td
              | some k => s.td.set k.val { s.td[k] with windowCount := s.td[k].windowCount - 1 }
            ctc := { s.ctc with entries := s.ctc.entries.set i.val { e with windowOpen := false } } }
        ∧ (e.windowOpen = false → FiresTo o i .stop s taken)
        ∧ (e.windowOpen = true → e.spent = false → FiresTo o i .stop s closed)
        ∧ (e.windowOpen = true → e.spent = true →
            FiresTo o i .stop s { reported .spent { o with forced := false } i e closed with
              ctc := { s.ctc with entries := s.ctc.entries.set i.val { e with windowOpen := false, state := .held } }
              fs := { taken.fs with
                tickets := s.fs.tickets.filter fun u => u.entry ≠ i
                deferred := s.fs.deferred.filter fun d => d.entry ≠ i } })

/-- R125, R123, R143, R91, R180: the loss teardown. The lists are empty; every open window is closed, with one off its
track's window count and its CLOSE with FORCED, and a spent one becomes HELD and posts SPENT, in index order; each owned
track that is not kept takes its safe state and loses its pulse; every ARMING entry is LIVE; nothing else changes before
the pending commit is applied, and where none waits that is the whole of it. (Log entry 30: the angle of a CLOSE in a
teardown into ACQUIRE without an estimate. Log entry 23, DEDUCED: the emptied deferred list keeps no recorded cycle.) -/
def Obligations.LossTeardownLeavesNothingOpen : Prop :=
  ∀ s : State, ∃ t : State,
    t = { postAll (forcedCloses true (fun _ => true) s) s with
        fs := { s.fs with tickets := [], deferred := [], deferredCycle := none }
        ctc := { s.ctc with
          entries := Vector.ofFn fun i => { s.ctc.entries[i] with
            windowOpen := false
            state :=
              if (s.ctc.entries[i].windowOpen && s.ctc.entries[i].spent) = true then .held
              else if s.ctc.entries[i].state = .arming then .live
              else s.ctc.entries[i].state } }
        td := Vector.ofFn fun k =>
          if s.td[k].owner = none ∨ s.td[k].keepOnLoss = true then
            { s.td[k] with windowCount := s.td[k].windowCount - windowsOn (fun _ => true) s k }
          else
            { s.td[k] with
              windowCount := s.td[k].windowCount - windowsOn (fun _ => true) s k
              latch := s.td[k].safeActive
              pulse := none } }
      ∧ teardown applyPending s = applyPending t
      ∧ (s.cc.pendingRecord = none → teardown applyPending s = t)

/-! ### Angles -/

/-- R34: tooth k begins at floor(k × 3600 / T), with 3600 for k = T, and the spans of the T teeth add up to 3600 au; for the
tooth counts the hub allows no span is empty. R48, R49: the interpolated angle is b + floor((a(k + 1) − b) × t / P), capped
at a(k + 1) − 1, and absent while the angle is invalid or there is no period; it never reaches the start of the next tooth
while the tooth is still the present one, and never falls below the tooth's base. -/
def Obligations.TeethAndTheInterpolatedAngle : Prop :=
  (∀ teeth : Nat, 4 ≤ teeth → teeth ≤ 240 →
    (∀ k, toothAngle teeth k = k * 3600 / teeth) ∧ toothAngle teeth teeth = 3600
      ∧ ((List.range teeth).map fun k => toothAngle teeth (k + 1) - toothAngle teeth k).sum = 3600
      ∧ ∀ k, k < teeth → toothAngle teeth k < toothAngle teeth (k + 1))
    ∧ ∀ s : State, ∃ ends : Nat, ends = (s.ag.tooth + 1) * 3600 / s.cc.active.toothCount
      ∧ (s.ag.valid = false → s.angle = none)
      ∧ ((s.ls.lock = .stopped ∨ s.ls.lock = .search) → s.angle = none)
      ∧ ((s.ls.lock = .acquire ∨ s.ls.lock = .locked ∨ s.ls.lock = .holdover) → s.ag.valid = true →
          s.angle = (s.estimate.map fun e => min (s.ag.base + (ends - s.ag.base) * s.ag.timer / e) (ends - 1)))
      ∧ (s.ls.lock = .freerun → s.ag.valid = true →
          s.angle
            = some (min (s.ag.base + (ends - s.ag.base) * s.ag.timer / s.cc.active.freeRunPeriod) (ends - 1)))
      ∧ ∀ a : Nat, s.angle = some a → s.ag.base < ends → s.ag.base ≤ a ∧ a < ends

/-! ### Event delivery -/

/-- R149, R154, R155, R159: a record goes, at each port on its own, to the first of its slots that matches: to the queue,
or dropped and counted at a queue of 16, or into the slot's latest register; a port without a match is left. -/
def Obligations.RecordGoesToTheFirstMatchingSlot : Prop :=
  ∀ (ev : Event) (s : State) (p : Port),
    ((∀ n, ¬slotMatches s.er[p] p ev n) → (post ev s).er[p] = s.er[p])
      ∧ ∀ n, slotMatches s.er[p] p ev n → (∀ m, m < n → ¬slotMatches s.er[p] p ev m) →
          (post ev s).er[p] =
            if s.er[p].slots[n].latest = true then
              { s.er[p] with
                latest := s.er[p].latest.set n.val
                  (LatestRegister.mk (some ev) true (s.er[p].latest[n].fresh || s.er[p].latest[n].overwritten) false) }
            else if s.er[p].queue.length < 16 then { s.er[p] with queue := s.er[p].queue ++ [ev] }
            else { s.er[p] with lost := min (s.er[p].lost + 1) 255, overflowCause := true, lostMark := false }

/-! ### The frame of a port -/

/-- R186, R188, R190: a rise outside TRAILING is no read-completion: only p's marks go, and the port is IDLE. A rise in
RECEIVING drops the bits and counts a frame error, saturating at 255; one in RESPONDING or DISCARDING counts none. MODEL'S
CHOICE: at an IDLE port the select line is high already and nothing happens (log entry 4), and after RESPONDING the port
keeps the bits and the response it holds until its next fall (log entry 25). -/
def Obligations.RiseOutsideTrailingIsNoReadCompletion : Prop :=
  ∀ (p : Port) (s : State),
    (s.pi[p].framing = .idle → exec (.selectRise p) s = .next s)
      ∧ ((s.pi[p].framing = .receiving ∨ s.pi[p].framing = .responding ∨ s.pi[p].framing = .discarding) →
        ∃ t, exec (.selectRise p) s = .next t
          ∧ t.pi = s.pi.set p.val
              (if s.pi[p].framing = .receiving then
                { s.pi[p] with
                  framing := .idle
                  bits := []
                  frameErrors := min (s.pi[p].frameErrors + 1) 255
                  sdo := none }
              else { s.pi[p] with framing := .idle, sdo := none })
          ∧ marked t p = false ∧ (∀ q, q ≠ p → marked t q = marked s q)
          ∧ (∀ (q : Port) (n : GateNo), t.eq.latches[q][n].value = s.eq.latches[q][n].value)
          ∧ (∀ q : Port, t.pt.stepSeen[q].value = s.pt.stepSeen[q].value
              ∧ t.er[q].queue = s.er[q].queue ∧ t.er[q].lost = s.er[q].lost ∧ t.causes q = s.causes q
              ∧ (∀ n : SlotNo, t.er[q].latest[n].record = s.er[q].latest[n].record
                  ∧ t.er[q].latest[n].fresh = s.er[q].latest[n].fresh
                  ∧ t.er[q].latest[n].overwritten = s.er[q].latest[n].overwritten))
          ∧ (marked s p = false → t = { s with pi := t.pi })
          ∧ t.resetLow = s.resetLow ∧ t.stamp = s.stamp ∧ t.ag = s.ag ∧ t.ctc = s.ctc ∧ t.fs = s.fs ∧ t.td = s.td
          ∧ t.ls.lock = s.ls.lock ∧ t.cc.holder = s.cc.holder ∧ t.cc.active = s.cc.active ∧ t.pending = s.pending)

/-- R190 and its table (R14, R29, R76, R156, R157, R160, R172): a rise from TRAILING clears what p's marks name, and then
p has no mark; the rest of the hub and the other ports are left. MODEL'S READING: the marks that p holds tell what is
cleared, whatever request set them (log entry 20, DEDUCED); MODEL'S CHOICE: the port keeps the bits and the response it
holds until its next fall (log entry 25). -/
def Obligations.ReadCompletionClearsWhatIsMarked : Prop :=
  ∀ (p : Port) (s : State), s.pi[p].framing = .trailing →
    ∃ t, exec (.selectRise p) s = .next t ∧ marked t p = false
      ∧ t = { s with
          pi := s.pi.set p.val { s.pi[p] with framing := .idle, sdo := none }
          eq := { s.eq with
            latches := s.eq.latches.set p.val (Vector.ofFn fun n : GateNo =>
              Marked.mk (s.eq.latches[p][n].value && !s.eq.latches[p][n].mark) false) }
          pt := { s.pt with
            stepSeen := s.pt.stepSeen.set p.val (Marked.mk (s.pt.stepSeen[p].value && !s.pt.stepSeen[p].mark) false) }
          ls := { s.ls with lockMarks := s.ls.lockMarks.set p.val false }
          cc := { s.cc with claimMarks := s.cc.claimMarks.set p.val false }
          er := s.er.set p.val { s.er[p] with
            lockCause := s.er[p].lockCause && !s.ls.lockMarks[p]
            claimCause := s.er[p].claimCause && !s.cc.claimMarks[p]
            queue := if s.er[p].popMark = true then s.er[p].queue.drop 1 else s.er[p].queue
            lost := if s.er[p].lostMark = true then 0 else s.er[p].lost
            overflowCause := s.er[p].overflowCause && !s.er[p].lostMark
            latest := Vector.ofFn fun n : SlotNo =>
              LatestRegister.mk s.er[p].latest[n].record (s.er[p].latest[n].fresh && !s.er[p].latest[n].mark)
                (s.er[p].latest[n].overwritten && !s.er[p].latest[n].mark) false
            popMark := false
            lostMark := false } }

/-- R185, R186, away from the edge that completes a request: a rising edge in RECEIVING adds its bit, one in RESPONDING
counts a bit as shifted and ends in TRAILING after the last; a falling edge in RESPONDING puts the next bit of the
response on CPpSDO; elsewhere CPpSDO is one, and at an IDLE port nothing but the clock level moves. The fall of the select
line at an IDLE port starts RECEIVING with no bits and a one on CPpSDO. -/
def Obligations.SelectFallAndClockEdgesMoveTheFrame : Prop :=
  ∀ (p : Port) (sdi : Bool) (s : State), s.resetLow = false →
    (s.pi[p].framing = .idle →
        exec (.selectFall p) s = .next { s with
          pi := s.pi.set p.val { s.pi[p] with framing := .receiving, bits := [], shifted := 0, sdo := some true } })
      ∧ (s.pi[p].sck = false → s.pi[p].framing = .receiving → requestComplete (s.pi[p].bits ++ [sdi]) = false →
        exec (.serialClockEdge p true sdi) s = .next { s with
          pi := s.pi.set p.val { s.pi[p] with sck := true, bits := s.pi[p].bits ++ [sdi] } })
      ∧ (s.pi[p].sck = false → s.pi[p].framing = .responding →
          exec (.serialClockEdge p true sdi) s = .next { s with
            pi := s.pi.set p.val { s.pi[p] with
              sck := true
              shifted := s.pi[p].shifted + 1
              framing := if s.pi[p].shifted + 1 = 8 * s.pi[p].response.length then .trailing else .responding } })
      ∧ (s.pi[p].sck = false → (s.pi[p].framing = .trailing ∨ s.pi[p].framing = .discarding ∨ s.pi[p].framing = .idle) →
          exec (.serialClockEdge p true sdi) s = .next { s with pi := s.pi.set p.val { s.pi[p] with sck := true } })
      ∧ (s.pi[p].sck = true → s.pi[p].framing = .responding →
          exec (.serialClockEdge p false sdi) s = .next { s with
            pi := s.pi.set p.val { s.pi[p] with
              sck := false
              sdo := some (((bitsOfBytes s.pi[p].response)[s.pi[p].shifted]?).getD true) } })
      ∧ (s.pi[p].sck = true →
          (s.pi[p].framing = .receiving ∨ s.pi[p].framing = .trailing ∨ s.pi[p].framing = .discarding) →
            exec (.serialClockEdge p false sdi) s = .next { s with
              pi := s.pi.set p.val { s.pi[p] with sck := false, sdo := some true } })
      ∧ (s.pi[p].sck = true → s.pi[p].framing = .idle →
          exec (.serialClockEdge p false sdi) s = .next { s with pi := s.pi.set p.val { s.pi[p] with sck := false } })

/-! ### Requests that only read -/

/-- R192, R88, R146, R153, R164, R189, with the layouts of R197 to R199: NOP, READ_ENTRY, READ_TRACK, READ_SLOT and READ_ATTN
report and change nothing but their port; a number out of range gives RANGE, and a code that R197 does not list gives
UNKNOWN. NOP and READ_ATTN give the highest-priority cause that is pending and enabled, or NONE. READ_TRACK's pulse time is
in µs, rounded up, and 1 for a pulse at its very end (MODEL'S CHOICE there, log entry 13). -/
def Obligations.PlainReadsChangeNothing : Prop :=
  ∀ (p : Port) (x : Byte) (s : State),
    (operandCount x = none → Answers (.unknownCode p x) p [x] [0x0C] s s)
      ∧ (∃ summary : Nat,
          (summary = 0 ↔ s.effectiveCauses p = 0)
            ∧ (∀ c, summary = c + 1 →
                (s.effectiveCauses p).getLsbD c = true ∧ ∀ d, d < c → (s.effectiveCauses p).getLsbD d = false)
            ∧ Answers (.nop p) p [0x00] [0x00, octet summary, octet s.pi[p].frameErrors] s s
            ∧ Answers (.readAttn p) p [0x47]
                ([0x00, octet summary] ++ octets2 (s.causes p).toNat ++ octets2 s.er[p].attnMask.toNat) s s)
      ∧ (∀ (i : EntryNo) (e : Entry), x = octet i.val → e = s.ctc.entries[i] →
          Answers (.readEntry p x) p [0x22, x]
            ([(0x00 : Byte), match e.image.action with | .note => 0 | .set => 1 | .clear => 2 | .pulse => 3 | .window => 4]
              ++ octets2 e.image.start ++ angleOctets e.image.stop ++ [octetOr e.image.track]
              ++ octets2 (e.image.width.getD 0)
              ++ [e.image.tag,
                match e.image.gate with | .always => 0 | .active n => octet (16 + n.val) | .inactive n => octet (32 + n.val),
                octet (bitsValue [e.image.flags.quiet, e.image.flags.reportGated, e.image.flags.pause]),
                octet e.image.count,
                match e.state with | .free => 0 | .held => 1 | .arming => 2 | .live => 3,
                octetOr e.owner, octet (bitsValue [e.windowOpen, e.spent, e.lastFired.isSome])]
              ++ octets2 ((e.lastFired.map BitVec.toNat).getD 0)) s s)
      ∧ (64 ≤ x.toNat → Answers (.readEntry p x) p [0x22, x] [0x05] s s)
      ∧ (∀ (k : TrackNo) (r : Track), x = octet k.val → r = s.td[k] →
          ∃ logical line : Bool,
            (logical = true ↔ r.latch = true ∨ 0 < r.windowCount ∨ r.pulse ≠ none)
              ∧ (line = true ↔ logical ≠ r.inverted)
              ∧ Answers (.readTrack p x) p [0x34, x]
                ([0x00, octetOr r.owner,
                  octet (bitsValue [r.latch, r.inverted, r.safeActive, r.keepOnLoss, logical, line, r.pulse.isSome]),
                  octet r.windowCount]
                  ++ octets2 (match r.pulse with | none => 0 | some n => max 1 ((n + 3) / 4))) s s)
      ∧ (8 ≤ x.toNat → Answers (.readTrack p x) p [0x34, x] [0x05] s s)
      ∧ (∀ (n : SlotNo) (k : Slot), x = octet n.val → k = s.er[p].slots[n] →
          Answers (.readSlot p x) p [0x44, x]
            [0x00, octet k.enabled.toNat, k.tag, k.mask, octet k.kinds.toNat, octet k.own.toNat, octet k.latest.toNat,
              s.er[p].portMask] s s)
      ∧ (4 ≤ x.toNat → Answers (.readSlot p x) p [0x44, x] [0x05] s s)

/-- R176: READ_PARAM gives RANGE for an unknown id or selector, STATE for STAGED without a holder or PENDING without a
pending commit, and otherwise the id and the value in the record it names; it changes nothing. -/
def Obligations.ReadParamReadsTheNamedRecord : Prop :=
  ∀ (p : Port) (id selector : Byte) (s : State), ClaimSound s →
    (paramOf id = none ∨ 3 ≤ selector.toNat → Answers (.readParam p id selector) p [0x55, id, selector] [0x05] s s)
      ∧ ∀ q, paramOf id = some q →
          (selector = 0 →
              Answers (.readParam p id selector) p [0x55, id, selector]
                ([0x00, id] ++ bytesOf24 (BitVec.ofNat 24 (s.cc.active.read q))) s s)
            ∧ (selector = 1 → s.cc.holder = none → Answers (.readParam p id selector) p [0x55, id, selector] [0x04] s s)
            ∧ (∀ c, selector = 1 → s.cc.staged = some c →
                Answers (.readParam p id selector) p [0x55, id, selector]
                  ([0x00, id] ++ bytesOf24 (BitVec.ofNat 24 (c.read q))) s s)
            ∧ (selector = 2 → s.cc.pendingRecord = none →
                Answers (.readParam p id selector) p [0x55, id, selector] [0x04] s s)
            ∧ (∀ c, selector = 2 → s.cc.pendingRecord = some c →
                Answers (.readParam p id selector) p [0x55, id, selector]
                  ([0x00, id] ++ bytesOf24 (BitVec.ofNat 24 (c.read q))) s s)

/-- R14, R29, R76, R77, R172, with the layouts of R197 and R200: READ_INPUTS, READ_STATUS and READ_CLAIM report, and mark at
port p exactly what they report as set; nothing is cleared yet and nothing else changes. MODEL'S CHOICE: an expired timer
is reported as present as well (log entry 12), and one at its very expiry still shows the limit (log entry 13). -/
def Obligations.StatusReadsMarkWhatTheyReport : Prop :=
  ∀ (p : Port) (s : State),
    Answers (.readInputs p) p [0x11]
        [0x00,
          octet (bitsValue [s.eq.tooth.filtered, s.eq.index.filtered, s.eq.gates[0].filtered, s.eq.gates[1].filtered,
            s.eq.gates[2].filtered, s.eq.gates[3].filtered]),
          octet (bitsValue [s.eq.active[0], s.eq.active[1], s.eq.active[2], s.eq.active[3]]),
          octet (bitsValue [s.eq.latches[p][0].value, s.eq.latches[p][1].value, s.eq.latches[p][2].value,
            s.eq.latches[p][3].value])] s
        { s with eq := { s.eq with
          latches := s.eq.latches.set p.val (Vector.ofFn fun n : GateNo =>
            Marked.mk s.eq.latches[p][n].value (s.eq.latches[p][n].mark || s.eq.latches[p][n].value)) } }
      ∧ Answers (.readStatus p) p [0x10]
          ([0x00,
            match s.ls.lock with
              | .stopped => 0 | .search => 1 | .acquire => 2 | .locked => 3 | .holdover => 4 | .freerun => 5,
            octet (bitsValue [s.inFiring, s.ag.valid, s.ag.indexPending, s.pt.stepSeen[p].value, s.estimate.isSome,
              s.ls.standstill != .absent, s.ls.standstill == .expired]),
            octet s.ls.settle, octet s.ls.clean, octet s.ls.noisy, octet s.ls.indexMiss, octet s.ls.holdover]
            ++ octets3 (match s.ls.standstill with | .running n => min n s.cc.active.standstillLimit | _ => 0)
            ++ octets3 (s.estimate.getD 0)
            ++ [octet s.pt.history.length, octet s.depth, if s.ag.valid = true then octet s.ag.tooth else 0xFF]
            ++ octets2 s.ag.cycle.toNat ++ angleOctets s.angle ++ octets2 s.ag.missCount ++ octets2 s.eq.cycleNoise
            ++ octets2 s.eq.totalNoise ++ octets2 s.ag.totalMisses ++ octets2 s.ag.lateTeeth ++ octets2 s.ls.indexErrors
            ++ octets2 s.ag.indexNoise ++ octets2 s.pt.speedSteps ++ octets2 s.fs.overflows) s
          { s with
            ls := { s.ls with lockMarks := s.ls.lockMarks.set p.val (s.ls.lockMarks[p] || s.er[p].lockCause) }
            pt := { s.pt with
              stepSeen :=
                s.pt.stepSeen.set p.val
                  (Marked.mk s.pt.stepSeen[p].value (s.pt.stepSeen[p].mark || s.pt.stepSeen[p].value)) } }
      ∧ ∃ place : Nat,
          (place = 0 ↔ p ∉ s.cc.waiting) ∧ (∀ n, place = n + 1 → s.cc.waiting[n]? = some p ∧ p ∉ s.cc.waiting.take n)
            ∧ Answers (.readClaim p) p [0x53]
                [0x00, octetOr s.cc.holder, octet s.cc.waiting.length, octetOr s.cc.waiting[0]?, octetOr s.cc.waiting[1]?,
                  octetOr s.cc.waiting[2]?,
                  octet (bitsValue [s.cc.holder == some p, s.cc.pendingRecord.isSome]), octet place] s
                { s with cc := { s.cc with
                  claimMarks := s.cc.claimMarks.set p.val (s.cc.claimMarks[p] || s.er[p].claimCause) } }

/-- R156, R157, R160, with the record of R199: POP_EVENT, READ_QUEUE_INFO and READ_LATEST report and mark; EMPTY and RANGE
mark nothing. -/
def Obligations.DeliveryReadsMarkWhatTheyReport : Prop :=
  ∀ (p : Port) (x : Byte) (s : State),
    (s.er[p].queue = [] → Answers (.popEvent p) p [0x40] [0x09] s s)
      ∧ (∀ ev rest, s.er[p].queue = ev :: rest →
          Answers (.popEvent p) p [0x40] ([0x00] ++ recordBytes ev ++ [octet rest.length]) s
            { s with er := s.er.set p.val { s.er[p] with popMark := true } })
      ∧ Answers (.readQueueInfo p) p [0x41]
          [0x00, octet s.er[p].queue.length, octet s.er[p].lost, octet s.er[p].watermark,
            if s.er[p].overflowCause = true then 1 else 0] s
          { s with er := s.er.set p.val { s.er[p] with lostMark := true } }
      ∧ (4 ≤ x.toNat → Answers (.readLatest p x) p [0x42, x] [0x05] s s)
      ∧ ∀ n : SlotNo, x = octet n.val →
          (s.er[p].latest[n].record = none → Answers (.readLatest p x) p [0x42, x] [0x09] s s)
            ∧ ∀ ev, s.er[p].latest[n].record = some ev →
                Answers (.readLatest p x) p [0x42, x]
                  ([0x00, octet (s.er[p].latest[n].fresh.toNat + 2 * s.er[p].latest[n].overwritten.toNat)] ++ recordBytes ev) s
                  { s with er := s.er.set p.val { s.er[p] with
                    latest := s.er[p].latest.set n.val { s.er[p].latest[n] with
                      mark := s.er[p].latest[n].mark || s.er[p].latest[n].fresh } } }

/-! ### The cam table -/

/-- R85: ALLOC_ENTRY, its checks in order: QUOTA, FULL, or the FREE entry with the lowest index, handed out HELD with the
default image. -/
def Obligations.AllocEntryHandsOutTheLowestFreeEntry : Prop :=
  ∀ (p : Port) (s : State),
    (s.ctc.quota[p] ≤ s.ctc.owned[p] → Answers (.allocEntry p) p [0x20] [0x07] s s)
      ∧ (s.ctc.owned[p] < s.ctc.quota[p] → (∀ i : EntryNo, s.ctc.entries[i].state ≠ .free) →
          Answers (.allocEntry p) p [0x20] [0x06] s s)
      ∧ ∀ i : EntryNo, s.ctc.owned[p] < s.ctc.quota[p] → s.ctc.entries[i].state = .free →
          (∀ j : EntryNo, j < i → s.ctc.entries[j].state ≠ .free) →
            Answers (.allocEntry p) p [0x20] [0x00, octet i.val] s { s with ctc := { s.ctc with
              entries := s.ctc.entries.set i.val
                ⟨.held, some p, ⟨.note, 0, none, none, none, 0, .always, ⟨false, false, false⟩, 0⟩, false, false, none⟩
              owned := s.ctc.owned.set p.val (s.ctc.owned[p] + 1) } }

/-- R87: WRITE_ENTRY on an own entry: STATE unless HELD; RANGE for an image out of range; otherwise every field of the
image becomes what R198 says its bytes stand for, spent is cleared, and nothing else changes. -/
def Obligations.WriteEntryTakesAWholeImage : Prop :=
  ∀ (p : Port) (i : EntryNo) (r : RawImage) (s : State), s.ctc.entries[i].owner = some p →
    ((s.ctc.entries[i].state = .arming ∨ s.ctc.entries[i].state = .live) →
        Answers (.writeEntry p (octet i.val) r) p ([0x21, octet i.val] ++ imageBytes r) [0x04] s s)
      ∧ (s.ctc.entries[i].state = .held → ¬imageInRange r →
          Answers (.writeEntry p (octet i.val) r) p ([0x21, octet i.val] ++ imageBytes r) [0x05] s s)
      ∧ (s.ctc.entries[i].state = .held → imageInRange r →
          ∃ (action : Action) (track : Option TrackNo) (gate : GateCond),
            (r.action = match action with | .note => 0 | .set => 1 | .clear => 2 | .pulse => 3 | .window => 4)
            ∧ r.track = octetOr track
            ∧ (r.gate = match gate with
                | .always => 0
                | .active n => octet (16 + n.val)
                | .inactive n => octet (32 + n.val))
            ∧ Answers (.writeEntry p (octet i.val) r) p ([0x21, octet i.val] ++ imageBytes r) [0x00] s
                { s with ctc := { s.ctc with
                  entries := s.ctc.entries.set i.val { s.ctc.entries[i] with
                    spent := false
                    image := {
                      action := action
                      start := r.start.toNat
                      stop := if r.stop = 0xFFFF then none else some r.stop.toNat
                      track := track
                      width := if r.width = 0 then none else some r.width.toNat
                      tag := r.tag
                      gate := gate
                      flags := ⟨r.flags.getLsbD 0, r.flags.getLsbD 1, r.flags.getLsbD 2⟩
                      count := r.count.toNat } } } })

/-- R89, R90: ARM_ENTRY on an own entry: STATE unless HELD; RANGE and then DENIED by the validation; otherwise ARMING in the
firing set and LIVE outside it, and no other field changes. -/
def Obligations.ArmEntryValidatesAndArms : Prop :=
  ∀ (p : Port) (i : EntryNo) (s : State), s.ctc.entries[i].owner = some p →
    ((s.ctc.entries[i].state = .arming ∨ s.ctc.entries[i].state = .live) →
        Answers (.armEntry p (octet i.val)) p [0x23, octet i.val] [0x04] s s)
      ∧ (s.ctc.entries[i].state = .held → armingOutOfRange s.ctc.entries[i] →
          Answers (.armEntry p (octet i.val)) p [0x23, octet i.val] [0x05] s s)
      ∧ (s.ctc.entries[i].state = .held → ¬armingOutOfRange s.ctc.entries[i] → ¬namedTrackOwned s s.ctc.entries[i] →
          Answers (.armEntry p (octet i.val)) p [0x23, octet i.val] [0x03] s s)
      ∧ (s.ctc.entries[i].state = .held → ¬armingOutOfRange s.ctc.entries[i] → namedTrackOwned s s.ctc.entries[i] →
          Answers (.armEntry p (octet i.val)) p [0x23, octet i.val] [0x00, if s.inFiring = true then 2 else 3] s
            { s with ctc := { s.ctc with
              entries := s.ctc.entries.set i.val
                { s.ctc.entries[i] with state := if s.inFiring = true then .arming else .live } } })

/-- R93, R95, R123, R124: HOLD_ENTRY takes an ARMING or LIVE entry out of service and makes it HELD; FREE_ENTRY does the
same and gives the entry up, from HELD as well, with one off the owned count. -/
def Obligations.HoldAndFreeTakeOutOfService : Prop :=
  ∀ (p : Port) (i : EntryNo) (s : State), s.ctc.entries[i].owner = some p →
    ∃ t : State, t = outOfService i s
      ∧ (s.ctc.entries[i].state = .held →
          Answers (.holdEntry p (octet i.val)) p [0x24, octet i.val] [0x04] s s
            ∧ Answers (.freeEntry p (octet i.val)) p [0x25, octet i.val] [0x00] s { s with ctc := { s.ctc with
                entries := s.ctc.entries.set i.val Entry.default
                owned := s.ctc.owned.set p.val (s.ctc.owned[p] - 1) } })
      ∧ ((s.ctc.entries[i].state = .arming ∨ s.ctc.entries[i].state = .live) →
          Answers (.holdEntry p (octet i.val)) p [0x24, octet i.val] [0x00] s { t with ctc := { t.ctc with
              entries := t.ctc.entries.set i.val { t.ctc.entries[i] with state := .held } } }
            ∧ Answers (.freeEntry p (octet i.val)) p [0x25, octet i.val] [0x00] s { t with ctc := { t.ctc with
                entries := t.ctc.entries.set i.val Entry.default
                owned := t.ctc.owned.set p.val (t.ctc.owned[p] - 1) } })

/-- R96, R97, R99, R100, R120: MODIFY_FLAGS on an own entry: RANGE for masks that name more than the three flags or one
flag twice; otherwise the flags named are set or cleared and no other field changes, but that PAUSE newly set on a LIVE
entry in HOLDOVER also takes the entry out of service. It stays LIVE, but where its open window is spent the forced close
spends it: HELD, and SPENT behind the CLOSE with FORCED unless QUIET. -/
def Obligations.ModifyFlagsSetsAndClears : Prop :=
  ∀ (p : Port) (i : EntryNo) (x y : Byte) (s : State), s.ctc.entries[i].owner = some p →
    ((8 ≤ x.toNat ∨ 8 ≤ y.toNat ∨ x &&& y ≠ 0) →
        Answers (.modifyFlags p (octet i.val) x y) p [0x26, octet i.val, x, y] [0x05] s s)
      ∧ (x.toNat < 8 → y.toNat < 8 → x &&& y = 0 →
          ∃ (e : Entry) (f : EntryFlags) (flagged : State),
            e = s.ctc.entries[i] ∧ f.code = (e.image.flags.code ||| x) &&& ~~~y
              ∧ flagged = { s with ctc := { s.ctc with
                  entries := s.ctc.entries.set i.val { e with image := { e.image with flags := f } } } }
              ∧ (¬(s.ls.lock = .holdover ∧ e.state = .live ∧ f.pause = true ∧ e.image.flags.pause = false) →
                  Answers (.modifyFlags p (octet i.val) x y) p [0x26, octet i.val, x, y] [0x00, f.code] s flagged)
              ∧ (s.ls.lock = .holdover → e.state = .live → f.pause = true → e.image.flags.pause = false →
                  (e.windowOpen = true → e.spent = false) →
                    Answers (.modifyFlags p (octet i.val) x y) p [0x26, octet i.val, x, y] [0x00, f.code] s
                      (outOfService i flagged))
              ∧ (s.ls.lock = .holdover → e.state = .live → f.pause = true → e.image.flags.pause = false →
                  e.windowOpen = true → e.spent = true →
                    ∃ (paused : Entry) (closed : State),
                      paused = { e with image := { e.image with flags := f } } ∧ closed = outOfService i flagged
                      ∧ Answers (.modifyFlags p (octet i.val) x y) p [0x26, octet i.val, x, y] [0x00, f.code] s
                          { reported .spent ⟨false, false, s.cycleIfValid, s.angle⟩ i paused closed with
                            ctc := { s.ctc with
                              entries := s.ctc.entries.set i.val { paused with windowOpen := false, state := .held } } }))

/-- R86, R173: an entry request with an index of 64 or more gives RANGE, and from a port that is not the entry's owner
DENIED; a holder-only request from a port that is not the holder gives DENIED whatever its operands. Nothing changes. -/
def Obligations.RequestsOfOthersAreRefused : Prop :=
  ∀ (p : Port) (x y z : Byte) (v : BitVec 24) (r : RawImage) (s : State),
    (64 ≤ x.toNat →
        Answers (.writeEntry p x r) p ([0x21, x] ++ imageBytes r) [0x05] s s
          ∧ Answers (.armEntry p x) p [0x23, x] [0x05] s s ∧ Answers (.holdEntry p x) p [0x24, x] [0x05] s s
          ∧ Answers (.freeEntry p x) p [0x25, x] [0x05] s s
          ∧ Answers (.modifyFlags p x y z) p [0x26, x, y, z] [0x05] s s)
      ∧ (∀ i : EntryNo, x = octet i.val → s.ctc.entries[i].owner ≠ some p →
          Answers (.writeEntry p x r) p ([0x21, x] ++ imageBytes r) [0x03] s s
            ∧ Answers (.armEntry p x) p [0x23, x] [0x03] s s ∧ Answers (.holdEntry p x) p [0x24, x] [0x03] s s
            ∧ Answers (.freeEntry p x) p [0x25, x] [0x03] s s
            ∧ Answers (.modifyFlags p x y z) p [0x26, x, y, z] [0x03] s s)
      ∧ (s.cc.holder ≠ some p →
          Answers (.freerunOn p) p [0x14] [0x03] s s ∧ Answers (.freerunOff p) p [0x15] [0x03] s s
            ∧ Answers (.restartReference p) p [0x16] [0x03] s s ∧ Answers (.clearCounters p) p [0x17] [0x03] s s
            ∧ Answers (.stageParam p x v) p ([0x54, x] ++ bytesOf24 v) [0x03] s s
            ∧ Answers (.commit p) p [0x56] [0x03] s s ∧ Answers (.discard p) p [0x57] [0x03] s s
            ∧ Answers (.setQuota p x y) p [0x58, x, y] [0x03] s s)

/-! ### Tracks -/

/-- R133, R134: ASSIGN_TRACK and RELEASE_TRACK by the track's owner, each check in its order. -/
def Obligations.TracksAreAssignedAndReleased : Prop :=
  ∀ (p : Port) (x : Byte) (s : State),
    (8 ≤ x.toNat →
        Answers (.assignTrack p x) p [0x30, x] [0x05] s s ∧ Answers (.releaseTrack p x) p [0x31, x] [0x05] s s)
      ∧ ∀ k : TrackNo, x = octet k.val →
          (s.td[k].owner = none → Answers (.assignTrack p x) p [0x30, x] [0x00] s
              { s with td := s.td.set k.val { s.td[k] with owner := some p } })
            ∧ (s.td[k].owner = some p → Answers (.assignTrack p x) p [0x30, x] [0x02] s s)
            ∧ (∀ q, s.td[k].owner = some q → q ≠ p → Answers (.assignTrack p x) p [0x30, x] [0x03] s s)
            ∧ (s.td[k].owner ≠ some p → Answers (.releaseTrack p x) p [0x31, x] [0x03] s s)
            ∧ ∀ named : Prop,
                (named ↔ ∃ i : EntryNo, (s.ctc.entries[i].state = .arming ∨ s.ctc.entries[i].state = .live)
                  ∧ s.ctc.entries[i].owner = some p ∧ s.ctc.entries[i].image.track = some k) →
                (s.td[k].owner = some p → named → Answers (.releaseTrack p x) p [0x31, x] [0x0B] s s)
                  ∧ (s.td[k].owner = some p → ¬named → Answers (.releaseTrack p x) p [0x31, x] [0x00] s
                      { s with td := s.td.set k.val ⟨none, false, s.td[k].windowCount, none, false, false, false⟩ })

/-- R136, R137, R131, R132: SET_TRACK and DRIVE_TRACK: RANGE, DENIED and RANGE in this order, otherwise the three settings
or the latch, and DRIVE_TRACK reports the levels after the write; the other contributions and tracks stay. -/
def Obligations.TracksAreSetAndDriven : Prop :=
  ∀ (p : Port) (x a c d : Byte) (s : State),
    (8 ≤ x.toNat →
        Answers (.setTrack p x a c d) p [0x32, x, a, c, d] [0x05] s s
          ∧ Answers (.driveTrack p x a) p [0x33, x, a] [0x05] s s)
      ∧ ∀ k : TrackNo, x = octet k.val →
          (s.td[k].owner ≠ some p →
              Answers (.setTrack p x a c d) p [0x32, x, a, c, d] [0x03] s s
                ∧ Answers (.driveTrack p x a) p [0x33, x, a] [0x03] s s)
            ∧ (s.td[k].owner = some p →
                ((2 ≤ a.toNat ∨ 2 ≤ c.toNat ∨ 2 ≤ d.toNat) → Answers (.setTrack p x a c d) p [0x32, x, a, c, d] [0x05] s s)
                  ∧ (2 ≤ a.toNat → Answers (.driveTrack p x a) p [0x33, x, a] [0x05] s s)
                  ∧ (a.toNat < 2 → c.toNat < 2 → d.toNat < 2 →
                      Answers (.setTrack p x a c d) p [0x32, x, a, c, d] [0x00] s { s with
                        td := s.td.set k.val { s.td[k] with
                          inverted := a == 1
                          safeActive := c == 1
                          keepOnLoss := d == 1 } })
                  ∧ (a.toNat < 2 →
                      ∃ logical line : Bool,
                        (logical = true ↔ a = 1 ∨ 0 < s.td[k].windowCount ∨ s.td[k].pulse ≠ none)
                          ∧ (line = true ↔ logical ≠ s.td[k].inverted)
                          ∧ Answers (.driveTrack p x a) p [0x33, x, a] [0x00, octet (logical.toNat + 2 * line.toNat)] s
                              { s with td := s.td.set k.val { s.td[k] with latch := a == 1 } }))

/-! ### Subscriptions -/

/-- R151, R152, R162: SET_PORT_MASK, WRITE_SLOT and SET_ATTN_MASK act on their own port alone: the mask; the slot, whose
latest register is emptied; the attention mask and the watermark. Encodings that stand for nothing give RANGE. -/
def Obligations.SubscriptionsAreWritten : Prop :=
  ∀ (p : Port) (x : Byte) (r : RawSlot) (causes : BitVec 16) (s : State),
    Answers (.setPortMask p x) p [0x45, x] [0x00, x] s { s with er := s.er.set p.val { s.er[p] with portMask := x } }
      ∧ (4 ≤ x.toNat ∨ 2 ≤ r.enabled.toNat ∨ 64 ≤ r.kinds.toNat ∨ 2 ≤ r.own.toNat ∨ 2 ≤ r.mode.toNat →
          Answers (.writeSlot p x r) p [0x43, x, r.enabled, r.tag, r.mask, r.kinds, r.own, r.mode] [0x05] s s)
      ∧ (∀ n : SlotNo, x = octet n.val → r.enabled.toNat < 2 → r.kinds.toNat < 64 → r.own.toNat < 2 → r.mode.toNat < 2 →
          Answers (.writeSlot p x r) p [0x43, x, r.enabled, r.tag, r.mask, r.kinds, r.own, r.mode] [0x00] s
            { s with er := s.er.set p.val { s.er[p] with
              slots := s.er[p].slots.set n.val
                ⟨r.enabled == 1, r.tag, r.mask, r.kinds.setWidth 6, r.own == 1, r.mode == 1⟩
              latest := s.er[p].latest.set n.val ⟨none, false, false, false⟩ } })
      ∧ (512 ≤ causes.toNat ∨ x = 0 ∨ 16 < x.toNat →
          Answers (.setAttnMask p causes x) p ([0x46] ++ bytesOf16 causes ++ [x]) [0x05] s s)
      ∧ (causes.toNat < 512 → x ≠ 0 → x.toNat ≤ 16 →
          Answers (.setAttnMask p causes x) p ([0x46] ++ bytesOf16 causes ++ [x]) ([0x00] ++ bytesOf16 causes ++ [x]) s
            { s with er := s.er.set p.val { s.er[p] with attnMask := causes.setWidth 9, watermark := x.toNat } })

/-! ### The claim and the configuration -/

/-- R168 to R170: REQUEST_CLAIM by the holder and the list, and WITHDRAW. RELEASE_CLAIM by the holder passes the claim to
the oldest waiter with a fresh staged copy and its CLAIM cause, or leaves no holder; edits thrown away set the old holder's
CLAIM cause, a new setting of the cause removes that port's mark of it (R172), and a pending commit stays; from another
port it gives DENIED. -/
def Obligations.ClaimIsRequestedWithdrawnAndReleased : Prop :=
  ∀ (p : Port) (s : State),
    (s.cc.holder = none → Answers (.requestClaim p) p [0x50] [0x00, 0] s { s with
        cc := { s.cc with
          holder := some p
          staged := some s.cc.active
          claimMarks := s.cc.claimMarks.set p.val false }
        er := s.er.set p.val { s.er[p] with claimCause := true } })
      ∧ (s.cc.holder = some p → Answers (.requestClaim p) p [0x50] [0x02, 0] s s)
      ∧ (∀ h, s.cc.holder = some h → h ≠ p → p ∉ s.cc.waiting →
          Answers (.requestClaim p) p [0x50] [0x01, octet (s.cc.waiting.length + 1)] s
            { s with cc := { s.cc with waiting := s.cc.waiting ++ [p] } })
      ∧ (∀ h before after, s.cc.holder = some h → h ≠ p → s.cc.waiting = before ++ p :: after → p ∉ before →
          Answers (.requestClaim p) p [0x50] [0x01, octet (before.length + 1)] s s)
      ∧ (p ∉ s.cc.waiting → Answers (.withdraw p) p [0x51] [0x0A] s s)
      ∧ (∀ before after, s.cc.waiting = before ++ p :: after → p ∉ before → p ∉ after →
          Answers (.withdraw p) p [0x51] [0x00] s { s with cc := { s.cc with waiting := before ++ after } })
      ∧ (s.cc.holder ≠ some p → Answers (.releaseClaim p) p [0x52] [0x03] s s)
      ∧ ∀ c, s.cc.holder = some p → s.cc.staged = some c →
          ∃ t, Answers (.releaseClaim p) p [0x52] [0x00] s t
            ∧ t.cc = { s.cc with
                holder := s.cc.waiting.head?
                waiting := s.cc.waiting.drop 1
                staged := if s.cc.waiting = [] then none else some s.cc.active
                claimMarks := Vector.ofFn fun q =>
                  s.cc.claimMarks[q] && !(q == p && c != s.cc.active) && s.cc.waiting.head? != some q }
            ∧ (∀ q : Port, t.er[q] = { s.er[q] with
                claimCause := s.er[q].claimCause || (q == p && c != s.cc.active) || s.cc.waiting.head? == some q })
            ∧ t = { s with cc := t.cc, er := t.er }

/-- R175, R177, R182: STAGE_PARAM writes the holder's staged copy alone, DISCARD makes it the active configuration, and
SET_QUOTA writes a quota; PENDING and RANGE change nothing. -/
def Obligations.HolderStagesDiscardsAndSetsQuotas : Prop :=
  ∀ (p : Port) (id x y : Byte) (v : BitVec 24) (s : State), s.cc.holder = some p →
    (s.cc.pendingRecord ≠ none → Answers (.stageParam p id v) p ([0x54, id] ++ bytesOf24 v) [0x08] s s)
      ∧ (s.cc.pendingRecord = none → (∀ q, paramOf id = some q → ¬allowed q v.toNat) →
          Answers (.stageParam p id v) p ([0x54, id] ++ bytesOf24 v) [0x05] s s)
      ∧ (∀ q c, s.cc.pendingRecord = none → s.cc.staged = some c → paramOf id = some q → allowed q v.toNat →
          ∃ d : RefConfig, d.read q = v.toNat ∧ (∀ r, r ≠ q → d.read r = c.read r)
            ∧ Answers (.stageParam p id v) p ([0x54, id] ++ bytesOf24 v) ([0x00, id] ++ bytesOf24 v) s
                { s with cc := { s.cc with staged := some d } })
      ∧ Answers (.discard p) p [0x57] [0x00] s { s with cc := { s.cc with staged := some s.cc.active } }
      ∧ (4 ≤ x.toNat ∨ 64 < y.toNat → Answers (.setQuota p x y) p [0x58, x, y] [0x05] s s)
      ∧ ∀ q : Port, x = octet q.val → y.toNat ≤ 64 → Answers (.setQuota p x y) p [0x58, x, y] [0x00, x, y] s
          { s with ctc := { s.ctc with quota := s.ctc.quota.set q.val y.toNat } }

/-- R178 to R180, R109, R125: COMMIT from the holder: PENDING while one waits; in the firing set the staged copy is captured
and waits; outside it is applied at once, and the holder's CLAIM cause is set. A record that waits is applied at the next
tooth-0 step in the firing set, after the ARMING entries have become LIVE, and in the teardown of a departure, here that of
the standstill timer (StepFiresWhatIsLeftLate and LossTeardownLeavesNothingOpen give the place for every step and
departure); then it waits no longer. -/
def Obligations.CommitWaitsOrApplies : Prop :=
  ∀ (p : Port) (s : State),
    (s.cc.holder = some p →
      (s.cc.pendingRecord ≠ none → Answers (.commit p) p [0x56] [0x08] s s)
        ∧ (∀ c, s.cc.pendingRecord = none → s.cc.staged = some c → s.inFiring = true →
            Answers (.commit p) p [0x56] [0x00, 1] s { s with cc := { s.cc with pendingRecord := some c } })
        ∧ (∀ c, s.cc.pendingRecord = none → s.cc.staged = some c → s.inFiring = false →
            ∃ t, Answers (.commit p) p [0x56] [0x00, 0] s t ∧ t = applyRecord c s ∧ t.cc.staged = some c
              ∧ t.cc.holder = some p ∧ t.cc.waiting = s.cc.waiting ∧ t.er[p].claimCause = true
              ∧ t.ctc.quota = s.ctc.quota ∧ t.ctc.owned = s.ctc.owned ∧ t.pi = s.pi ∧ t.pending = s.pending
              ∧ t.stamp = s.stamp))
    ∧ (s.cc.pendingRecord = none → applyPending s = s)
    ∧ ∀ r, s.cc.pendingRecord = some r →
        applyPending s = applyRecord r s
        ∧ (s.ls.lock = .freerun → s.ag.freeRunning = true → s.cc.active.freeRunPeriod ≤ s.ag.timer →
            ∃ t, exec .freeStep s = .next t
              ∧ ((s.ag.tooth + 1) % s.cc.active.toothCount = 0 →
                  t.cc.active = r ∧ t.cc.pendingRecord = none ∧ ∀ i : EntryNo, t.ctc.entries[i].state ≠ .arming)
              ∧ ((s.ag.tooth + 1) % s.cc.active.toothCount ≠ 0 → t.cc = s.cc))
        ∧ (∀ n, s.ls.standstill = .running n → s.cc.active.standstillLimit < n → s.inFiring = true →
            (s.ls.lock = .locked ∨ s.ls.lock = .holdover) → s.ag.deadline = none →
              ∃ t, exec .standstillExpiry s = .next t ∧ t.cc.active = r ∧ t.cc.pendingRecord = none
                ∧ ∀ i : EntryNo, t.ctc.entries[i].state ≠ .arming)

/-- R179, R3, R13, R18, R22, R23, R26, R58, R74, R8, R51: the application of a record. The record becomes the active
configuration, none waits, and the holder gets a fresh staged copy and its CLAIM cause. A record that differs in anything
lets the runs expire whose line's new width they have lasted, leaves the others, and brings every gate input's active state
up to date, setting the latch of every port where it changes. Beside runs and gates (so where none of them acts): a class A
change makes the reference start anew by the lock state; a depth in force that falls trims the history; a new standstill
limit expires the counts that exceed it; every other change alters nothing else. MODEL'S READING of R51 in FREERUN, whatever
the tooth and the timer (DEDUCED): a free-run period that the timer has reached makes the FREE step due and makes no step
within the application (log entry 16), and a class A change sets tooth index and base angle to 0 and leaves the tooth's
start and timer (log entry 26). -/
def Obligations.AppliedRecordHasItsClassEffects : Prop :=
  ∀ (r : RefConfig) (s : State), ∃ (t : State) (cc : ClaimController),
    t = applyRecord r s ∧ t.cc = cc
    ∧ cc = { s.cc with
        active := r
        pendingRecord := none
        staged := if s.cc.holder = none then s.cc.staged else some r
        claimMarks := Vector.ofFn fun p => s.cc.claimMarks[p] && s.cc.holder != some p }
    ∧ (∀ p, s.cc.holder = some p → t.er[p].claimCause = true)
    ∧ (r ≠ s.cc.active →
        (∀ line : LineId,
          ((s.cc.active.widthCode line ≠ r.widthCode line ∧ ∃ since, (s.eq.line line).run = some since
              ∧ filterWidth (r.widthCode line) ≤ (s.stamp - since).toNat) →
            t.eq.line line = ⟨(s.eq.line line).raw, (s.eq.line line).raw, none⟩)
          ∧ (¬(s.cc.active.widthCode line ≠ r.widthCode line ∧ ∃ since, (s.eq.line line).run = some since
              ∧ filterWidth (r.widthCode line) ≤ (s.stamp - since).toNat) → t.eq.line line = s.eq.line line))
        ∧ ∀ n : GateNo, t.eq.active[n] = (t.eq.gates[n].filtered == r.gates[n].activeHigh)
          ∧ ∀ p : Port, t.eq.latches[p][n]
            = if t.eq.active[n] = s.eq.active[n] then s.eq.latches[p][n] else ⟨true, false⟩)
    ∧ ((∀ line since, (s.eq.line line).run = some since → (s.stamp - since).toNat < filterWidth (r.widthCode line)) →
      (∀ n : GateNo, s.eq.active[n] = (s.eq.gates[n].filtered == r.gates[n].activeHigh)) →
        ∀ (causes : Bool → Vector EventPort 4) (anew : State),
          (∀ told, causes told = Vector.ofFn fun p => { s.er[p] with
            lockCause := s.er[p].lockCause || told
            claimCause := s.er[p].claimCause || s.cc.holder == some p }) →
          anew = { s with
            cc := cc
            er := causes (s.ls.lock == .acquire || s.ls.lock == .locked || s.ls.lock == .holdover)
            eq := { s.eq with cycleNoise := 0, window := none }
            pt := { s.pt with history := [], lastEdge := none, gap := .absent } } →
          (classAChanged s.cc.active r = true →
            ((s.ls.lock = .stopped ∨ s.ls.lock = .freerun) → t = { anew with
              ls := { s.ls with clean := 0, noisy := 0, indexMiss := 0, standstill := .absent }
              ag := if s.ls.lock = .freerun then { s.ag with tooth := 0, base := 0 } else s.ag })
            ∧ (s.inFiring = false → (s.ls.lock = .search ∨ s.ls.lock = .acquire ∨ s.ls.lock = .locked) → t = { anew with
              ls := { s.ls with
                lock := .search
                settle := 0
                clean := 0
                noisy := 0
                indexMiss := 0
                synthInCycle := false
                standstill := .running 0
                lockMarks := if s.ls.lock = .search then s.ls.lockMarks else Vector.replicate 4 false }
              ag := invalidAngle s.ag })
            ∧ (s.inFiring = true → s.ls.lock ≠ .freerun →
                t.ls.lock = .search ∧ t.ls.standstill = .running 0 ∧ t.ls.settle = 0 ∧ t.ls.clean = 0 ∧ t.ls.noisy = 0
                ∧ t.ls.indexMiss = 0 ∧ t.ls.synthInCycle = false ∧ t.ag = invalidAngle s.ag ∧ t.pt = anew.pt
                ∧ t.eq = anew.eq ∧ t.fs.tickets = [] ∧ t.fs.deferred = [] ∧ (∀ p : Port, t.er[p].lockCause = true)
                ∧ ∀ i : EntryNo, t.ctc.entries[i].windowOpen = false ∧ t.ctc.entries[i].state ≠ .arming))
          ∧ (classAChanged s.cc.active r = false →
            ∀ (overdue : Timer → Prop) (measured : PeriodTracker),
              (∀ c, overdue c ↔ s.cc.active.standstillLimit ≠ r.standstillLimit
                ∧ ∃ n, c = .running n ∧ r.standstillLimit < n) →
              measured.gap = s.pt.gap ∧ ¬overdue s.pt.gap ∨ measured.gap = .expired ∧ overdue s.pt.gap →
              measured = { s.pt with
                gap := measured.gap
                history :=
                  if depthFor r s.ls.lock < depthFor s.cc.active s.ls.lock then
                    s.pt.history.drop (s.pt.history.length - depthFor r s.ls.lock)
                  else s.pt.history } →
              (¬overdue s.ls.standstill → t = { s with cc := cc, er := causes false, pt := measured })
              ∧ (overdue s.ls.standstill →
                  ((s.ls.lock = .stopped ∨ s.ls.lock = .freerun
                      ∨ (s.ls.lock = .locked ∨ s.ls.lock = .holdover) ∧ s.ag.deadline ≠ none) →
                    t = { s with
                      cc := cc
                      er := causes false
                      pt := measured
                      ls := { s.ls with standstill := .expired } })
                  ∧ ((s.ls.lock = .search ∨ s.ls.lock = .acquire
                      ∨ (s.ls.lock = .locked ∨ s.ls.lock = .holdover) ∧ s.ag.deadline = none) →
                    t.ls.lock = .stopped ∧ t.ls.standstill = .expired ∧ t.ag = invalidAngle s.ag
                      ∧ t.pt = { measured with history := [] }))))

/-! ### Requests on the reference -/

/-- R70, R50, R36, R128: FREERUN_ON from the holder takes any state to FREERUN, in the firing set, keeps the streaks and the
timer, and continues the tooth from the angle where it is valid, or steps to tooth 0 where it is not; the LOCK cause is set
at a change of state. Then FS re-times the tooth in progress, or handles the immediate step. MODEL'S CHOICES: the base
angle is computed with the period in force before the transition (log entry 15, DEDUCED), and the history is trimmed where
DL is below the depth in force (log entry 29). -/
def Obligations.FreerunOnEntersFreerun : Prop :=
  ∀ (p : Port) (s : State), s.cc.holder = some p →
    ∃ t u : State, Answers (.freerunOn p) p [0x14] [0x00] s t
      ∧ u = { s with
          ls := { s.ls with
            lock := .freerun
            settle := 0
            synthInCycle := false
            closingNoise := if s.ag.valid = true then s.ls.closingNoise else s.eq.cycleNoise
            lockMarks := if s.ls.lock = .freerun then s.ls.lockMarks else Vector.replicate 4 false }
          eq := { s.eq with cycleNoise := if s.ag.valid = true then s.eq.cycleNoise else 0 }
          pt := { s.pt with history := trimmed s.cc.active s.ls.lock .freerun s.pt.history }
          ag := { s.ag with
            valid := true
            freeRunning := true
            tooth := if s.ag.valid = true then s.ag.tooth else 0
            base := if s.ag.valid = true then s.angle.getD (s.ag.tooth * 3600 / s.cc.active.toothCount) else 0
            cycle := if s.ag.valid = true then s.ag.cycle else s.ag.cycle + 1
            toothStart := s.stamp
            timer := 0
            indexPending := false
            deadline := none
            lateWindow := none
            missCount := 0 }
          er := lockCaused (s.ls.lock != .freerun) s.er }
      ∧ t = (if s.ag.valid = true then freerunRetime u
          else schedulerStep applyPending ⟨.free, 0, s.ag.cycle + 1, s.stamp, 0, .unchecked⟩ u)
      ∧ (s.ag.valid = true ∨ s.cc.pendingRecord = none →
          t.ag = u.ag ∧ t.ls = u.ls ∧ t.pt = u.pt ∧ t.eq = u.eq ∧ t.cc = s.cc ∧ t.inFiring = true
            ∧ ∀ q : Port, t.er[q].lockCause = (s.er[q].lockCause || s.ls.lock != .freerun))
      ∧ t.pi = s.pi ∧ t.stamp = s.stamp ∧ t.pending = s.pending

/-- R72, R73, R78: FREERUN_OFF from the holder takes FREERUN to SEARCH, or on to STOPPED where the timer is expired, and
gives STATE elsewhere; RESTART_REFERENCE takes every state to STOPPED with every block's restart effects; CLEAR_COUNTERS
zeroes the seven reference counters and nothing else. A departure from the firing set goes through the loss teardown, whose
last part applies a commit that waits (R125, R180; LossTeardownLeavesNothingOpen says what it leaves), after the restart
effects (log entry 14, DEDUCED) and before the expired timer is looked at (log entry 18, DEDUCED). Where no commit waits
FREERUN_OFF leaves the tracks and the table as the teardown has them; the emptied deferred list keeps no recorded cycle (log
entry 23, DEDUCED). -/
def Obligations.HolderLeavesRestartsAndClears : Prop :=
  ∀ (p : Port) (s : State), s.cc.holder = some p →
    (s.ls.lock ≠ .freerun → Answers (.freerunOff p) p [0x15] [0x04] s s)
      ∧ (s.ls.lock = .freerun →
          ∃ (t u v : State),
            u = { s with
              ls := { toSearch s.ls with lockMarks := Vector.replicate 4 false }
              ag := invalidAngle s.ag
              pt := { s.pt with history := [] }
              eq := { s.eq with cycleNoise := 0, window := none }
              er := lockCaused true s.er }
            ∧ v = teardown applyPending u
            ∧ t = (if (v.ls.lock = .search ∨ v.ls.lock = .acquire) ∧ v.ls.standstill = .expired then onToStopped v else v)
            ∧ Answers (.freerunOff p) p [0x15] [0x00] s t
            ∧ (s.cc.pendingRecord = none →
                t.ls = { u.ls with lock := if s.ls.standstill = .expired then .stopped else .search }
                ∧ t.ag = u.ag ∧ t.pt = u.pt ∧ t.eq = u.eq ∧ t.inFiring = false
                ∧ t.fs = { s.fs with tickets := [], deferred := [], deferredCycle := none }
                ∧ (∀ i : EntryNo, t.ctc.entries[i] = { s.ctc.entries[i] with
                    windowOpen := false
                    state :=
                      if (s.ctc.entries[i].windowOpen && s.ctc.entries[i].spent) = true then .held
                      else if s.ctc.entries[i].state = .arming then .live
                      else s.ctc.entries[i].state })
                ∧ t.ctc.owned = s.ctc.owned ∧ t.ctc.quota = s.ctc.quota
                ∧ (∀ k : TrackNo, t.td[k] = (
                    if s.td[k].owner = none ∨ s.td[k].keepOnLoss = true then
                      { s.td[k] with windowCount := s.td[k].windowCount - windowsOn (fun _ => true) s k }
                    else
                      { s.td[k] with
                        windowCount := s.td[k].windowCount - windowsOn (fun _ => true) s k
                        latch := s.td[k].safeActive
                        pulse := none }))
                ∧ t.er = (postAll (forcedCloses true (fun _ => true) u) u).er ∧ t.cc = s.cc)
            ∧ t.resetLow = s.resetLow ∧ t.pi = s.pi ∧ t.stamp = s.stamp ∧ t.pending = s.pending)
      ∧ (∃ (t u : State),
          u = { s with
            ls := { s.ls with
              lock := .stopped
              settle := 0
              clean := 0
              noisy := 0
              indexMiss := 0
              synthInCycle := false
              standstill := .absent
              lockMarks := if s.ls.lock = .stopped then s.ls.lockMarks else Vector.replicate 4 false }
            ag := { invalidAngle s.ag with synthSinceReal := false }
            pt := { s.pt with history := [], lastEdge := none, gap := .absent }
            eq := { s.eq with cycleNoise := 0, window := none }
            er := lockCaused (s.ls.lock != .stopped) s.er }
          ∧ t = (if s.inFiring = true then teardown applyPending u else u)
          ∧ Answers (.restartReference p) p [0x16] [0x00] s t
          ∧ (s.inFiring = false ∨ s.cc.pendingRecord = none →
              t.ls = u.ls ∧ t.ag = u.ag ∧ t.pt = u.pt ∧ t.eq = u.eq ∧ t.cc = s.cc
                ∧ (s.inFiring = true → t.fs.tickets = [] ∧ t.fs.deferred = []
                  ∧ ∀ i : EntryNo, t.ctc.entries[i].windowOpen = false))
          ∧ t.resetLow = s.resetLow ∧ t.pi = s.pi ∧ t.stamp = s.stamp ∧ t.pending = s.pending)
      ∧ Answers (.clearCounters p) p [0x17] [0x00] s { s with
          eq := { s.eq with totalNoise := 0 }
          ag := { s.ag with totalMisses := 0, lateTeeth := 0, indexNoise := 0 }
          ls := { s.ls with indexErrors := 0 }
          pt := { s.pt with speedSteps := 0 }
          fs := { s.fs with overflows := 0 } }

/-- R193, R102, R147, R165, R183, R16, R33, R79, R123, R124: after DETACH port p owns no entry and no track, holds no claim
and waits for none, has default deliveries, no latch, no step-seen indication, no mark and no frame error. The points of its
ARMING and LIVE entries are off the lists, and their open windows are closed with CLOSE events for the other ports; a claim
it held goes to the oldest waiter with its CLAIM cause. What it shares, and the other ports' own, stay. -/
def Obligations.DetachGivesUpEverything : Prop :=
  ∀ (p : Port) (s : State), ClaimSound s →
    ∃ (t : State) (own served : EntryNo → Bool) (heir : Option Port),
      (∀ i, own i = true ↔ s.ctc.entries[i].owner = some p)
      ∧ (∀ i, served i = true ↔
          own i = true ∧ (s.ctc.entries[i].state = .arming ∨ s.ctc.entries[i].state = .live))
      ∧ heir = (if s.cc.holder = some p then s.cc.waiting.head? else none)
      ∧ Answers (.detach p) p [0x0A] [0x00] s t
      ∧ (∀ i : EntryNo, t.ctc.entries[i] = if own i = true then Entry.default else s.ctc.entries[i])
      ∧ t.ctc.owned = s.ctc.owned.set p.val 0 ∧ t.ctc.quota = s.ctc.quota
      ∧ t.fs = { s.fs with
          tickets := s.fs.tickets.filter fun u => !served u.entry
          deferred := s.fs.deferred.filter fun d => !served d.entry }
      ∧ (∀ k : TrackNo, t.td[k] =
          if s.td[k].owner = some p then ⟨none, false, s.td[k].windowCount - windowsOn served s k, none, false, false, false⟩
          else { s.td[k] with windowCount := s.td[k].windowCount - windowsOn served s k })
      ∧ t.cc = { s.cc with
          holder := if s.cc.holder = some p then s.cc.waiting.head? else s.cc.holder
          waiting := if s.cc.holder = some p then s.cc.waiting.drop 1 else s.cc.waiting.filter fun q => q ≠ p
          staged := if s.cc.holder = some p then heir.map fun _ => s.cc.active else s.cc.staged
          claimMarks := Vector.ofFn fun q => s.cc.claimMarks[q] && q != p && heir != some q }
      ∧ t.er[p] = EventPort.default ∧ t.causes p = 0 ∧ t.attentionLow p = false ∧ marked t p = false
      ∧ (∀ q : Port, q ≠ p → t.er[q] = { (postAll (forcedCloses false served s) s).er[q] with
          claimCause := s.er[q].claimCause || heir == some q })
      ∧ t.eq = { s.eq with latches := s.eq.latches.set p.val (Vector.replicate 4 ⟨false, false⟩) }
      ∧ t.pt = { s.pt with stepSeen := s.pt.stepSeen.set p.val ⟨false, false⟩ }
      ∧ t.ls = { s.ls with lockMarks := s.ls.lockMarks.set p.val false }
      ∧ t.pi = s.pi.set p.val { s.pi[p] with frameErrors := 0 }
      ∧ t = { s with ctc := t.ctc, fs := t.fs, td := t.td, cc := t.cc, er := t.er, eq := t.eq, pt := t.pt, ls := t.ls,
                     pi := t.pi }

/-! ### Encodings -/

/-- R197 to R199: what a port carries for a request reads back as that request, with every operand, for every well-formed
command that is a request. R186, R187, as log entry 6 (DEDUCED) reads them: the rising edge that brings the last bit of a
request does at once what the request command does; no earlier edge of the same frame completes a request. -/
def Obligations.RequestBytesReadBackAndComplete : Prop :=
  ∀ (i : Instr) (p : Port) (bytes : List Byte), WellFormed i = true → encodeRequest i = some (p, bytes) →
    decodeRequest p bytes = some i ∧ bytesOfBits (bitsOfBytes bytes) = bytes
      ∧ (∀ early, early <+: bitsOfBytes bytes → early.length < 8 * bytes.length → requestComplete early = false)
      ∧ ∀ (bit : Bool) (s : State), s.resetLow = false → s.pi[p].framing = .receiving → s.pi[p].sck = false →
          s.pi[p].bits ++ [bit] = bitsOfBytes bytes → exec (.serialClockEdge p true bit) s = exec i s

/-! ### Laws that every step keeps -/

/-- R82 to R84, R90, R139: at every step ownership and owned counts agree, an armed entry's track is its owner's, open
windows stand on LIVE WINDOW entries alone, and a track's window count is the number of open windows that name it. -/
def Obligations.EveryStepKeepsOwnershipAndWindows : Prop :=
  (∀ s t : State, WindowsSound s → step s = .next t → WindowsSound t)
    ∧ ∀ s t : State, CamTableSound s → ArmedTracksOwned s → WindowsSound s → step s = .next t →
        CamTableSound t ∧ ArmedTracksOwned t

/-- R126, R180, R91, R65: outside the firing set nothing waits to fire and no commit waits, at every step. -/
def Obligations.EveryStepKeepsQuietOutsideFiring : Prop :=
  ∀ s t : State, QuietOutsideFiring s → step s = .next t → QuietOutsideFiring t

/-- R37, R51, R65, R174, R19, R22: the angle, the settle, the configurations and the history stay sound at every step.
MODEL'S CHOICE (log entry 29, DESIGN CHOICE): that the history is no longer than the depth in force after FREERUN_ON from
STOPPED, SEARCH or ACQUIRE with DL below DA, where the model trims it by R22 and R31 alone would keep it. -/
def Obligations.EveryStepKeepsTheReferenceSound : Prop :=
  ∀ s t : State, AngleSound s → LockSound s → ConfigurationInRange s → HistorySound s → step s = .next t →
    AngleSound t ∧ LockSound t ∧ ConfigurationInRange t ∧ HistorySound t

/-- R167, R185, R186, R190, R155, R112, R195: claim, ports, marks and capacities stay sound at every step, and while RESET_n
is low every block holds its reset value (MODEL'S CHOICE, log entry 9, from R132, R163 and R195). -/
def Obligations.EveryStepKeepsClaimPortsAndCapacities : Prop :=
  (∀ s t : State, HeldInReset s → ClaimSound s → PortsSound s → MarksSound s → WithinCapacity s → step s = .next t →
      ClaimSound t ∧ PortsSound t ∧ MarksSound t ∧ WithinCapacity t)
    ∧ ∀ s t : State, HeldInReset s → step s = .next t → HeldInReset t

/-- Every law above holds right after device reset. -/
def Obligations.ResetSatisfiesEveryLaw : Prop :=
  CamTableSound State.reset ∧ ArmedTracksOwned State.reset ∧ WindowsSound State.reset ∧ QuietOutsideFiring State.reset
    ∧ AngleSound State.reset ∧ LockSound State.reset ∧ ConfigurationInRange State.reset ∧ HistorySound State.reset
    ∧ ClaimSound State.reset ∧ PortsSound State.reset ∧ MarksSound State.reset ∧ WithinCapacity State.reset
    ∧ HeldInReset State.reset

end
end

