-- ==== Sys2Proof/Laws/State.lean ====
section
/-! SUPPORT. The state's updates read back: one place and all places of a vector, and for every named update what each
field of the result is. All by computation, so that no later proof opens a record update. -/

namespace Sys2Proof.Machine

/-! ### One place and all places of a vector -/

@[simp] theorem vmod_getElem {α : Type} {n : Nat} (v : Vector α n) (i : Fin n) (f : α → α) (j : Nat) (h : j < n) :
    (vmod v i f)[j] = if i.val = j then f v[j] else v[j] := by
  simp only [vmod, Vector.getElem_set]
  split
  · next e => subst e; rfl
  · rfl

theorem vmod_at {α : Type} {n : Nat} (v : Vector α n) (i : Fin n) (f : α → α) (j : Fin n) :
    (vmod v i f)[j] = if i = j then f v[j] else v[j] := by
  simp [Fin.ext_iff]

theorem vmod_self {α : Type} {n : Nat} (v : Vector α n) (i : Fin n) (f : α → α) : (vmod v i f)[i] = f v[i] := by
  simp

theorem vmod_ne {α : Type} {n : Nat} (v : Vector α n) (i j : Fin n) (f : α → α) (h : i ≠ j) :
    (vmod v i f)[j] = v[j] := by
  rw [vmod_at, if_neg h]

theorem vmod_vmod {α : Type} {n : Nat} (v : Vector α n) (i : Fin n) (f g : α → α) :
    vmod (vmod v i f) i g = vmod v i fun a => g (f a) := by
  ext j h
  simp only [vmod_getElem]
  split <;> rfl

theorem vmod_eq_set {α : Type} {n : Nat} (v : Vector α n) (i : Fin n) (f : α → α) :
    vmod v i f = v.set i.val (f v[i]) := rfl

theorem vmod_id {α : Type} {n : Nat} (v : Vector α n) (i : Fin n) (f : α → α) (h : f v[i] = v[i]) :
    vmod v i f = v := by
  ext j hj
  rw [vmod_getElem]
  split
  · next e => subst e; exact h
  · rfl

@[simp] theorem vall_getElem {α β : Type} {n : Nat} (v : Vector α n) (f : α → β) (j : Nat) (h : j < n) :
    (vall v f)[j] = f v[j] := by
  simp [vall]

theorem vall_at {α β : Type} {n : Nat} (v : Vector α n) (f : α → β) (j : Fin n) : (vall v f)[j] = f v[j] := by
  simp

/-! ### State.modEntry -/

@[simp] theorem State.modEntry_resetLow (s : State) (i : EntryNo) (f : Entry → Entry) : (s.modEntry i f).resetLow = s.resetLow := rfl
@[simp] theorem State.modEntry_stamp (s : State) (i : EntryNo) (f : Entry → Entry) : (s.modEntry i f).stamp = s.stamp := rfl
@[simp] theorem State.modEntry_eq (s : State) (i : EntryNo) (f : Entry → Entry) : (s.modEntry i f).eq = s.eq := rfl
@[simp] theorem State.modEntry_pt (s : State) (i : EntryNo) (f : Entry → Entry) : (s.modEntry i f).pt = s.pt := rfl
@[simp] theorem State.modEntry_ag (s : State) (i : EntryNo) (f : Entry → Entry) : (s.modEntry i f).ag = s.ag := rfl
@[simp] theorem State.modEntry_ls (s : State) (i : EntryNo) (f : Entry → Entry) : (s.modEntry i f).ls = s.ls := rfl
@[simp] theorem State.modEntry_ctc_entries (s : State) (i : EntryNo) (f : Entry → Entry) :
    (s.modEntry i f).ctc.entries = vmod s.ctc.entries i f := rfl
@[simp] theorem State.modEntry_ctc_owned (s : State) (i : EntryNo) (f : Entry → Entry) :
    (s.modEntry i f).ctc.owned = s.ctc.owned := rfl
@[simp] theorem State.modEntry_ctc_quota (s : State) (i : EntryNo) (f : Entry → Entry) :
    (s.modEntry i f).ctc.quota = s.ctc.quota := rfl
@[simp] theorem State.modEntry_fs (s : State) (i : EntryNo) (f : Entry → Entry) : (s.modEntry i f).fs = s.fs := rfl
@[simp] theorem State.modEntry_td (s : State) (i : EntryNo) (f : Entry → Entry) : (s.modEntry i f).td = s.td := rfl
@[simp] theorem State.modEntry_er (s : State) (i : EntryNo) (f : Entry → Entry) : (s.modEntry i f).er = s.er := rfl
@[simp] theorem State.modEntry_cc (s : State) (i : EntryNo) (f : Entry → Entry) : (s.modEntry i f).cc = s.cc := rfl
@[simp] theorem State.modEntry_pi (s : State) (i : EntryNo) (f : Entry → Entry) : (s.modEntry i f).pi = s.pi := rfl
@[simp] theorem State.modEntry_pending (s : State) (i : EntryNo) (f : Entry → Entry) : (s.modEntry i f).pending = s.pending := rfl
@[simp] theorem State.modEntry_freeCount (s : State) (i : EntryNo) (f : Entry → Entry) : (s.modEntry i f).freeCount = s.freeCount := rfl

/-! ### State.modTrack -/

@[simp] theorem State.modTrack_resetLow (s : State) (k : TrackNo) (f : Track → Track) : (s.modTrack k f).resetLow = s.resetLow := rfl
@[simp] theorem State.modTrack_stamp (s : State) (k : TrackNo) (f : Track → Track) : (s.modTrack k f).stamp = s.stamp := rfl
@[simp] theorem State.modTrack_eq (s : State) (k : TrackNo) (f : Track → Track) : (s.modTrack k f).eq = s.eq := rfl
@[simp] theorem State.modTrack_pt (s : State) (k : TrackNo) (f : Track → Track) : (s.modTrack k f).pt = s.pt := rfl
@[simp] theorem State.modTrack_ag (s : State) (k : TrackNo) (f : Track → Track) : (s.modTrack k f).ag = s.ag := rfl
@[simp] theorem State.modTrack_ls (s : State) (k : TrackNo) (f : Track → Track) : (s.modTrack k f).ls = s.ls := rfl
@[simp] theorem State.modTrack_ctc (s : State) (k : TrackNo) (f : Track → Track) : (s.modTrack k f).ctc = s.ctc := rfl
@[simp] theorem State.modTrack_fs (s : State) (k : TrackNo) (f : Track → Track) : (s.modTrack k f).fs = s.fs := rfl
@[simp] theorem State.modTrack_td (s : State) (k : TrackNo) (f : Track → Track) :
    (s.modTrack k f).td = vmod s.td k f := rfl
@[simp] theorem State.modTrack_er (s : State) (k : TrackNo) (f : Track → Track) : (s.modTrack k f).er = s.er := rfl
@[simp] theorem State.modTrack_cc (s : State) (k : TrackNo) (f : Track → Track) : (s.modTrack k f).cc = s.cc := rfl
@[simp] theorem State.modTrack_pi (s : State) (k : TrackNo) (f : Track → Track) : (s.modTrack k f).pi = s.pi := rfl
@[simp] theorem State.modTrack_pending (s : State) (k : TrackNo) (f : Track → Track) : (s.modTrack k f).pending = s.pending := rfl
@[simp] theorem State.modTrack_freeCount (s : State) (k : TrackNo) (f : Track → Track) : (s.modTrack k f).freeCount = s.freeCount := rfl

/-! ### State.modEvents -/

@[simp] theorem State.modEvents_resetLow (s : State) (p : Port) (f : EventPort → EventPort) : (s.modEvents p f).resetLow = s.resetLow := rfl
@[simp] theorem State.modEvents_stamp (s : State) (p : Port) (f : EventPort → EventPort) : (s.modEvents p f).stamp = s.stamp := rfl
@[simp] theorem State.modEvents_eq (s : State) (p : Port) (f : EventPort → EventPort) : (s.modEvents p f).eq = s.eq := rfl
@[simp] theorem State.modEvents_pt (s : State) (p : Port) (f : EventPort → EventPort) : (s.modEvents p f).pt = s.pt := rfl
@[simp] theorem State.modEvents_ag (s : State) (p : Port) (f : EventPort → EventPort) : (s.modEvents p f).ag = s.ag := rfl
@[simp] theorem State.modEvents_ls (s : State) (p : Port) (f : EventPort → EventPort) : (s.modEvents p f).ls = s.ls := rfl
@[simp] theorem State.modEvents_ctc (s : State) (p : Port) (f : EventPort → EventPort) : (s.modEvents p f).ctc = s.ctc := rfl
@[simp] theorem State.modEvents_fs (s : State) (p : Port) (f : EventPort → EventPort) : (s.modEvents p f).fs = s.fs := rfl
@[simp] theorem State.modEvents_td (s : State) (p : Port) (f : EventPort → EventPort) : (s.modEvents p f).td = s.td := rfl
@[simp] theorem State.modEvents_er (s : State) (p : Port) (f : EventPort → EventPort) :
    (s.modEvents p f).er = vmod s.er p f := rfl
@[simp] theorem State.modEvents_cc (s : State) (p : Port) (f : EventPort → EventPort) : (s.modEvents p f).cc = s.cc := rfl
@[simp] theorem State.modEvents_pi (s : State) (p : Port) (f : EventPort → EventPort) : (s.modEvents p f).pi = s.pi := rfl
@[simp] theorem State.modEvents_pending (s : State) (p : Port) (f : EventPort → EventPort) : (s.modEvents p f).pending = s.pending := rfl
@[simp] theorem State.modEvents_freeCount (s : State) (p : Port) (f : EventPort → EventPort) : (s.modEvents p f).freeCount = s.freeCount := rfl

/-! ### State.modPort -/

@[simp] theorem State.modPort_resetLow (s : State) (p : Port) (f : PortInterface → PortInterface) : (s.modPort p f).resetLow = s.resetLow := rfl
@[simp] theorem State.modPort_stamp (s : State) (p : Port) (f : PortInterface → PortInterface) : (s.modPort p f).stamp = s.stamp := rfl
@[simp] theorem State.modPort_eq (s : State) (p : Port) (f : PortInterface → PortInterface) : (s.modPort p f).eq = s.eq := rfl
@[simp] theorem State.modPort_pt (s : State) (p : Port) (f : PortInterface → PortInterface) : (s.modPort p f).pt = s.pt := rfl
@[simp] theorem State.modPort_ag (s : State) (p : Port) (f : PortInterface → PortInterface) : (s.modPort p f).ag = s.ag := rfl
@[simp] theorem State.modPort_ls (s : State) (p : Port) (f : PortInterface → PortInterface) : (s.modPort p f).ls = s.ls := rfl
@[simp] theorem State.modPort_ctc (s : State) (p : Port) (f : PortInterface → PortInterface) : (s.modPort p f).ctc = s.ctc := rfl
@[simp] theorem State.modPort_fs (s : State) (p : Port) (f : PortInterface → PortInterface) : (s.modPort p f).fs = s.fs := rfl
@[simp] theorem State.modPort_td (s : State) (p : Port) (f : PortInterface → PortInterface) : (s.modPort p f).td = s.td := rfl
@[simp] theorem State.modPort_er (s : State) (p : Port) (f : PortInterface → PortInterface) : (s.modPort p f).er = s.er := rfl
@[simp] theorem State.modPort_cc (s : State) (p : Port) (f : PortInterface → PortInterface) : (s.modPort p f).cc = s.cc := rfl
@[simp] theorem State.modPort_pi (s : State) (p : Port) (f : PortInterface → PortInterface) :
    (s.modPort p f).pi = vmod s.pi p f := rfl
@[simp] theorem State.modPort_pending (s : State) (p : Port) (f : PortInterface → PortInterface) : (s.modPort p f).pending = s.pending := rfl
@[simp] theorem State.modPort_freeCount (s : State) (p : Port) (f : PortInterface → PortInterface) : (s.modPort p f).freeCount = s.freeCount := rfl

/-! ### post -/

@[simp] theorem post_resetLow (ev : Event) (s : State) : (post ev s).resetLow = s.resetLow := rfl
@[simp] theorem post_stamp (ev : Event) (s : State) : (post ev s).stamp = s.stamp := rfl
@[simp] theorem post_eq (ev : Event) (s : State) : (post ev s).eq = s.eq := rfl
@[simp] theorem post_pt (ev : Event) (s : State) : (post ev s).pt = s.pt := rfl
@[simp] theorem post_ag (ev : Event) (s : State) : (post ev s).ag = s.ag := rfl
@[simp] theorem post_ls (ev : Event) (s : State) : (post ev s).ls = s.ls := rfl
@[simp] theorem post_ctc (ev : Event) (s : State) : (post ev s).ctc = s.ctc := rfl
@[simp] theorem post_fs (ev : Event) (s : State) : (post ev s).fs = s.fs := rfl
@[simp] theorem post_td (ev : Event) (s : State) : (post ev s).td = s.td := rfl
@[simp] theorem post_er (ev : Event) (s : State) :
    (post ev s).er = Vector.ofFn fun p => s.er[p].deliver p ev := rfl
@[simp] theorem post_cc (ev : Event) (s : State) : (post ev s).cc = s.cc := rfl
@[simp] theorem post_pi (ev : Event) (s : State) : (post ev s).pi = s.pi := rfl
@[simp] theorem post_pending (ev : Event) (s : State) : (post ev s).pending = s.pending := rfl
@[simp] theorem post_freeCount (ev : Event) (s : State) : (post ev s).freeCount = s.freeCount := rfl

/-! ### setLockCause -/

@[simp] theorem setLockCause_resetLow (s : State) : (setLockCause s).resetLow = s.resetLow := rfl
@[simp] theorem setLockCause_stamp (s : State) : (setLockCause s).stamp = s.stamp := rfl
@[simp] theorem setLockCause_eq (s : State) : (setLockCause s).eq = s.eq := rfl
@[simp] theorem setLockCause_pt (s : State) : (setLockCause s).pt = s.pt := rfl
@[simp] theorem setLockCause_ag (s : State) : (setLockCause s).ag = s.ag := rfl
@[simp] theorem setLockCause_ls_lock (s : State) : (setLockCause s).ls.lock = s.ls.lock := rfl
@[simp] theorem setLockCause_ls_settle (s : State) : (setLockCause s).ls.settle = s.ls.settle := rfl
@[simp] theorem setLockCause_ls_clean (s : State) : (setLockCause s).ls.clean = s.ls.clean := rfl
@[simp] theorem setLockCause_ls_noisy (s : State) : (setLockCause s).ls.noisy = s.ls.noisy := rfl
@[simp] theorem setLockCause_ls_indexMiss (s : State) : (setLockCause s).ls.indexMiss = s.ls.indexMiss := rfl
@[simp] theorem setLockCause_ls_holdover (s : State) : (setLockCause s).ls.holdover = s.ls.holdover := rfl
@[simp] theorem setLockCause_ls_synthInCycle (s : State) : (setLockCause s).ls.synthInCycle = s.ls.synthInCycle := rfl
@[simp] theorem setLockCause_ls_closingNoise (s : State) : (setLockCause s).ls.closingNoise = s.ls.closingNoise := rfl
@[simp] theorem setLockCause_ls_standstill (s : State) : (setLockCause s).ls.standstill = s.ls.standstill := rfl
@[simp] theorem setLockCause_ls_indexErrors (s : State) : (setLockCause s).ls.indexErrors = s.ls.indexErrors := rfl
@[simp] theorem setLockCause_ls_lockMarks (s : State) :
    (setLockCause s).ls.lockMarks = Vector.replicate 4 false := rfl
@[simp] theorem setLockCause_ctc (s : State) : (setLockCause s).ctc = s.ctc := rfl
@[simp] theorem setLockCause_fs (s : State) : (setLockCause s).fs = s.fs := rfl
@[simp] theorem setLockCause_td (s : State) : (setLockCause s).td = s.td := rfl
@[simp] theorem setLockCause_er (s : State) :
    (setLockCause s).er = vall s.er fun q => { q with lockCause := true } := rfl
@[simp] theorem setLockCause_cc (s : State) : (setLockCause s).cc = s.cc := rfl
@[simp] theorem setLockCause_pi (s : State) : (setLockCause s).pi = s.pi := rfl
@[simp] theorem setLockCause_pending (s : State) : (setLockCause s).pending = s.pending := rfl
@[simp] theorem setLockCause_freeCount (s : State) : (setLockCause s).freeCount = s.freeCount := rfl

/-! ### setClaimCause -/

@[simp] theorem setClaimCause_resetLow (p : Port) (s : State) : (setClaimCause p s).resetLow = s.resetLow := rfl
@[simp] theorem setClaimCause_stamp (p : Port) (s : State) : (setClaimCause p s).stamp = s.stamp := rfl
@[simp] theorem setClaimCause_eq (p : Port) (s : State) : (setClaimCause p s).eq = s.eq := rfl
@[simp] theorem setClaimCause_pt (p : Port) (s : State) : (setClaimCause p s).pt = s.pt := rfl
@[simp] theorem setClaimCause_ag (p : Port) (s : State) : (setClaimCause p s).ag = s.ag := rfl
@[simp] theorem setClaimCause_ls (p : Port) (s : State) : (setClaimCause p s).ls = s.ls := rfl
@[simp] theorem setClaimCause_ctc (p : Port) (s : State) : (setClaimCause p s).ctc = s.ctc := rfl
@[simp] theorem setClaimCause_fs (p : Port) (s : State) : (setClaimCause p s).fs = s.fs := rfl
@[simp] theorem setClaimCause_td (p : Port) (s : State) : (setClaimCause p s).td = s.td := rfl
@[simp] theorem setClaimCause_er (p : Port) (s : State) :
    (setClaimCause p s).er = vmod s.er p fun q => { q with claimCause := true } := rfl
@[simp] theorem setClaimCause_cc_holder (p : Port) (s : State) : (setClaimCause p s).cc.holder = s.cc.holder := rfl
@[simp] theorem setClaimCause_cc_waiting (p : Port) (s : State) : (setClaimCause p s).cc.waiting = s.cc.waiting := rfl
@[simp] theorem setClaimCause_cc_active (p : Port) (s : State) : (setClaimCause p s).cc.active = s.cc.active := rfl
@[simp] theorem setClaimCause_cc_staged (p : Port) (s : State) : (setClaimCause p s).cc.staged = s.cc.staged := rfl
@[simp] theorem setClaimCause_cc_pendingRecord (p : Port) (s : State) :
    (setClaimCause p s).cc.pendingRecord = s.cc.pendingRecord := rfl
@[simp] theorem setClaimCause_cc_claimMarks (p : Port) (s : State) :
    (setClaimCause p s).cc.claimMarks = vmod s.cc.claimMarks p fun _ => false := rfl
@[simp] theorem setClaimCause_pi (p : Port) (s : State) : (setClaimCause p s).pi = s.pi := rfl
@[simp] theorem setClaimCause_pending (p : Port) (s : State) : (setClaimCause p s).pending = s.pending := rfl
@[simp] theorem setClaimCause_freeCount (p : Port) (s : State) : (setClaimCause p s).freeCount = s.freeCount := rfl

/-! ### removePoints -/

@[simp] theorem removePoints_resetLow (i : EntryNo) (s : State) : (removePoints i s).resetLow = s.resetLow := rfl
@[simp] theorem removePoints_stamp (i : EntryNo) (s : State) : (removePoints i s).stamp = s.stamp := rfl
@[simp] theorem removePoints_eq (i : EntryNo) (s : State) : (removePoints i s).eq = s.eq := rfl
@[simp] theorem removePoints_pt (i : EntryNo) (s : State) : (removePoints i s).pt = s.pt := rfl
@[simp] theorem removePoints_ag (i : EntryNo) (s : State) : (removePoints i s).ag = s.ag := rfl
@[simp] theorem removePoints_ls (i : EntryNo) (s : State) : (removePoints i s).ls = s.ls := rfl
@[simp] theorem removePoints_ctc (i : EntryNo) (s : State) : (removePoints i s).ctc = s.ctc := rfl
@[simp] theorem removePoints_fs_tickets (i : EntryNo) (s : State) :
    (removePoints i s).fs.tickets = s.fs.tickets.filter fun t => t.entry ≠ i := rfl
@[simp] theorem removePoints_fs_deferred (i : EntryNo) (s : State) :
    (removePoints i s).fs.deferred = s.fs.deferred.filter fun d => d.entry ≠ i := rfl
@[simp] theorem removePoints_fs_deferredCycle (i : EntryNo) (s : State) :
    (removePoints i s).fs.deferredCycle = s.fs.deferredCycle := rfl
@[simp] theorem removePoints_fs_taken (i : EntryNo) (s : State) : (removePoints i s).fs.taken = s.fs.taken := rfl
@[simp] theorem removePoints_fs_cycleSeen (i : EntryNo) (s : State) :
    (removePoints i s).fs.cycleSeen = s.fs.cycleSeen := rfl
@[simp] theorem removePoints_fs_overflows (i : EntryNo) (s : State) :
    (removePoints i s).fs.overflows = s.fs.overflows := rfl
@[simp] theorem removePoints_td (i : EntryNo) (s : State) : (removePoints i s).td = s.td := rfl
@[simp] theorem removePoints_er (i : EntryNo) (s : State) : (removePoints i s).er = s.er := rfl
@[simp] theorem removePoints_cc (i : EntryNo) (s : State) : (removePoints i s).cc = s.cc := rfl
@[simp] theorem removePoints_pi (i : EntryNo) (s : State) : (removePoints i s).pi = s.pi := rfl
@[simp] theorem removePoints_pending (i : EntryNo) (s : State) : (removePoints i s).pending = s.pending := rfl
@[simp] theorem removePoints_freeCount (i : EntryNo) (s : State) : (removePoints i s).freeCount = s.freeCount := rfl

/-! ### markTaken -/

@[simp] theorem markTaken_resetLow (i : EntryNo) (pt : Point) (s : State) : (markTaken i pt s).resetLow = s.resetLow := rfl
@[simp] theorem markTaken_stamp (i : EntryNo) (pt : Point) (s : State) : (markTaken i pt s).stamp = s.stamp := rfl
@[simp] theorem markTaken_eq (i : EntryNo) (pt : Point) (s : State) : (markTaken i pt s).eq = s.eq := rfl
@[simp] theorem markTaken_pt (i : EntryNo) (pt : Point) (s : State) : (markTaken i pt s).pt = s.pt := rfl
@[simp] theorem markTaken_ag (i : EntryNo) (pt : Point) (s : State) : (markTaken i pt s).ag = s.ag := rfl
@[simp] theorem markTaken_ls (i : EntryNo) (pt : Point) (s : State) : (markTaken i pt s).ls = s.ls := rfl
@[simp] theorem markTaken_ctc (i : EntryNo) (pt : Point) (s : State) : (markTaken i pt s).ctc = s.ctc := rfl
@[simp] theorem markTaken_fs_tickets (i : EntryNo) (pt : Point) (s : State) :
    (markTaken i pt s).fs.tickets = s.fs.tickets := rfl
@[simp] theorem markTaken_fs_deferred (i : EntryNo) (pt : Point) (s : State) :
    (markTaken i pt s).fs.deferred = s.fs.deferred := rfl
@[simp] theorem markTaken_fs_deferredCycle (i : EntryNo) (pt : Point) (s : State) :
    (markTaken i pt s).fs.deferredCycle = s.fs.deferredCycle := rfl
@[simp] theorem markTaken_fs_taken (i : EntryNo) (pt : Point) (s : State) :
    (markTaken i pt s).fs.taken = vmod s.fs.taken i fun m => m.setFor pt := rfl
@[simp] theorem markTaken_fs_cycleSeen (i : EntryNo) (pt : Point) (s : State) :
    (markTaken i pt s).fs.cycleSeen = s.fs.cycleSeen := rfl
@[simp] theorem markTaken_fs_overflows (i : EntryNo) (pt : Point) (s : State) :
    (markTaken i pt s).fs.overflows = s.fs.overflows := rfl
@[simp] theorem markTaken_td (i : EntryNo) (pt : Point) (s : State) : (markTaken i pt s).td = s.td := rfl
@[simp] theorem markTaken_er (i : EntryNo) (pt : Point) (s : State) : (markTaken i pt s).er = s.er := rfl
@[simp] theorem markTaken_cc (i : EntryNo) (pt : Point) (s : State) : (markTaken i pt s).cc = s.cc := rfl
@[simp] theorem markTaken_pi (i : EntryNo) (pt : Point) (s : State) : (markTaken i pt s).pi = s.pi := rfl
@[simp] theorem markTaken_pending (i : EntryNo) (pt : Point) (s : State) : (markTaken i pt s).pending = s.pending := rfl
@[simp] theorem markTaken_freeCount (i : EntryNo) (pt : Point) (s : State) : (markTaken i pt s).freeCount = s.freeCount := rfl

/-! ### discardLists -/

@[simp] theorem discardLists_resetLow (s : State) : (discardLists s).resetLow = s.resetLow := rfl
@[simp] theorem discardLists_stamp (s : State) : (discardLists s).stamp = s.stamp := rfl
@[simp] theorem discardLists_eq (s : State) : (discardLists s).eq = s.eq := rfl
@[simp] theorem discardLists_pt (s : State) : (discardLists s).pt = s.pt := rfl
@[simp] theorem discardLists_ag (s : State) : (discardLists s).ag = s.ag := rfl
@[simp] theorem discardLists_ls (s : State) : (discardLists s).ls = s.ls := rfl
@[simp] theorem discardLists_ctc (s : State) : (discardLists s).ctc = s.ctc := rfl
@[simp] theorem discardLists_fs_tickets (s : State) : (discardLists s).fs.tickets = [] := rfl
@[simp] theorem discardLists_fs_deferred (s : State) : (discardLists s).fs.deferred = [] := rfl
@[simp] theorem discardLists_fs_deferredCycle (s : State) : (discardLists s).fs.deferredCycle = none := rfl
@[simp] theorem discardLists_fs_taken (s : State) : (discardLists s).fs.taken = s.fs.taken := rfl
@[simp] theorem discardLists_fs_cycleSeen (s : State) : (discardLists s).fs.cycleSeen = s.fs.cycleSeen := rfl
@[simp] theorem discardLists_fs_overflows (s : State) : (discardLists s).fs.overflows = s.fs.overflows := rfl
@[simp] theorem discardLists_td (s : State) : (discardLists s).td = s.td := rfl
@[simp] theorem discardLists_er (s : State) : (discardLists s).er = s.er := rfl
@[simp] theorem discardLists_cc (s : State) : (discardLists s).cc = s.cc := rfl
@[simp] theorem discardLists_pi (s : State) : (discardLists s).pi = s.pi := rfl
@[simp] theorem discardLists_pending (s : State) : (discardLists s).pending = s.pending := rfl
@[simp] theorem discardLists_freeCount (s : State) : (discardLists s).freeCount = s.freeCount := rfl

/-! ### activateArming -/

@[simp] theorem activateArming_resetLow (s : State) : (activateArming s).resetLow = s.resetLow := by unfold activateArming; rfl
@[simp] theorem activateArming_stamp (s : State) : (activateArming s).stamp = s.stamp := by unfold activateArming; rfl
@[simp] theorem activateArming_eq (s : State) : (activateArming s).eq = s.eq := by unfold activateArming; rfl
@[simp] theorem activateArming_pt (s : State) : (activateArming s).pt = s.pt := by unfold activateArming; rfl
@[simp] theorem activateArming_ag (s : State) : (activateArming s).ag = s.ag := by unfold activateArming; rfl
@[simp] theorem activateArming_ls (s : State) : (activateArming s).ls = s.ls := by unfold activateArming; rfl
@[simp] theorem activateArming_ctc_entries (s : State) :
    (activateArming s).ctc.entries = vall s.ctc.entries fun e => if e.state = .arming then { e with state := .live } else e := by unfold activateArming; rfl
@[simp] theorem activateArming_ctc_owned (s : State) : (activateArming s).ctc.owned = s.ctc.owned := by unfold activateArming; rfl
@[simp] theorem activateArming_ctc_quota (s : State) : (activateArming s).ctc.quota = s.ctc.quota := by unfold activateArming; rfl
@[simp] theorem activateArming_fs (s : State) : (activateArming s).fs = s.fs := by unfold activateArming; rfl
@[simp] theorem activateArming_td (s : State) : (activateArming s).td = s.td := by unfold activateArming; rfl
@[simp] theorem activateArming_er (s : State) : (activateArming s).er = s.er := by unfold activateArming; rfl
@[simp] theorem activateArming_cc (s : State) : (activateArming s).cc = s.cc := by unfold activateArming; rfl
@[simp] theorem activateArming_pi (s : State) : (activateArming s).pi = s.pi := by unfold activateArming; rfl
@[simp] theorem activateArming_pending (s : State) : (activateArming s).pending = s.pending := by unfold activateArming; rfl
@[simp] theorem activateArming_freeCount (s : State) : (activateArming s).freeCount = s.freeCount := by unfold activateArming; rfl

/-! ### applyOnLoss -/

@[simp] theorem applyOnLoss_resetLow (s : State) : (applyOnLoss s).resetLow = s.resetLow := rfl
@[simp] theorem applyOnLoss_stamp (s : State) : (applyOnLoss s).stamp = s.stamp := rfl
@[simp] theorem applyOnLoss_eq (s : State) : (applyOnLoss s).eq = s.eq := rfl
@[simp] theorem applyOnLoss_pt (s : State) : (applyOnLoss s).pt = s.pt := rfl
@[simp] theorem applyOnLoss_ag (s : State) : (applyOnLoss s).ag = s.ag := rfl
@[simp] theorem applyOnLoss_ls (s : State) : (applyOnLoss s).ls = s.ls := rfl
@[simp] theorem applyOnLoss_ctc (s : State) : (applyOnLoss s).ctc = s.ctc := rfl
@[simp] theorem applyOnLoss_fs (s : State) : (applyOnLoss s).fs = s.fs := rfl
@[simp] theorem applyOnLoss_td (s : State) :
    (applyOnLoss s).td = vall s.td Track.onLoss := rfl
@[simp] theorem applyOnLoss_er (s : State) : (applyOnLoss s).er = s.er := rfl
@[simp] theorem applyOnLoss_cc (s : State) : (applyOnLoss s).cc = s.cc := rfl
@[simp] theorem applyOnLoss_pi (s : State) : (applyOnLoss s).pi = s.pi := rfl
@[simp] theorem applyOnLoss_pending (s : State) : (applyOnLoss s).pending = s.pending := rfl
@[simp] theorem applyOnLoss_freeCount (s : State) : (applyOnLoss s).freeCount = s.freeCount := rfl

/-! ### flushHistory -/

@[simp] theorem flushHistory_resetLow (s : State) : (flushHistory s).resetLow = s.resetLow := rfl
@[simp] theorem flushHistory_stamp (s : State) : (flushHistory s).stamp = s.stamp := rfl
@[simp] theorem flushHistory_eq (s : State) : (flushHistory s).eq = s.eq := rfl
@[simp] theorem flushHistory_pt_lastEdge (s : State) : (flushHistory s).pt.lastEdge = s.pt.lastEdge := rfl
@[simp] theorem flushHistory_pt_gap (s : State) : (flushHistory s).pt.gap = s.pt.gap := rfl
@[simp] theorem flushHistory_pt_history (s : State) : (flushHistory s).pt.history = [] := rfl
@[simp] theorem flushHistory_pt_speedSteps (s : State) : (flushHistory s).pt.speedSteps = s.pt.speedSteps := rfl
@[simp] theorem flushHistory_pt_stepSeen (s : State) : (flushHistory s).pt.stepSeen = s.pt.stepSeen := rfl
@[simp] theorem flushHistory_ag (s : State) : (flushHistory s).ag = s.ag := rfl
@[simp] theorem flushHistory_ls (s : State) : (flushHistory s).ls = s.ls := rfl
@[simp] theorem flushHistory_ctc (s : State) : (flushHistory s).ctc = s.ctc := rfl
@[simp] theorem flushHistory_fs (s : State) : (flushHistory s).fs = s.fs := rfl
@[simp] theorem flushHistory_td (s : State) : (flushHistory s).td = s.td := rfl
@[simp] theorem flushHistory_er (s : State) : (flushHistory s).er = s.er := rfl
@[simp] theorem flushHistory_cc (s : State) : (flushHistory s).cc = s.cc := rfl
@[simp] theorem flushHistory_pi (s : State) : (flushHistory s).pi = s.pi := rfl
@[simp] theorem flushHistory_pending (s : State) : (flushHistory s).pending = s.pending := rfl
@[simp] theorem flushHistory_freeCount (s : State) : (flushHistory s).freeCount = s.freeCount := rfl

/-! ### trimHistory -/

@[simp] theorem trimHistory_resetLow (d : Nat) (s : State) : (trimHistory d s).resetLow = s.resetLow := rfl
@[simp] theorem trimHistory_stamp (d : Nat) (s : State) : (trimHistory d s).stamp = s.stamp := rfl
@[simp] theorem trimHistory_eq (d : Nat) (s : State) : (trimHistory d s).eq = s.eq := rfl
@[simp] theorem trimHistory_pt_lastEdge (d : Nat) (s : State) : (trimHistory d s).pt.lastEdge = s.pt.lastEdge := rfl
@[simp] theorem trimHistory_pt_gap (d : Nat) (s : State) : (trimHistory d s).pt.gap = s.pt.gap := rfl
@[simp] theorem trimHistory_pt_history (d : Nat) (s : State) :
    (trimHistory d s).pt.history = newest d s.pt.history := rfl
@[simp] theorem trimHistory_pt_speedSteps (d : Nat) (s : State) :
    (trimHistory d s).pt.speedSteps = s.pt.speedSteps := rfl
@[simp] theorem trimHistory_pt_stepSeen (d : Nat) (s : State) : (trimHistory d s).pt.stepSeen = s.pt.stepSeen := rfl
@[simp] theorem trimHistory_ag (d : Nat) (s : State) : (trimHistory d s).ag = s.ag := rfl
@[simp] theorem trimHistory_ls (d : Nat) (s : State) : (trimHistory d s).ls = s.ls := rfl
@[simp] theorem trimHistory_ctc (d : Nat) (s : State) : (trimHistory d s).ctc = s.ctc := rfl
@[simp] theorem trimHistory_fs (d : Nat) (s : State) : (trimHistory d s).fs = s.fs := rfl
@[simp] theorem trimHistory_td (d : Nat) (s : State) : (trimHistory d s).td = s.td := rfl
@[simp] theorem trimHistory_er (d : Nat) (s : State) : (trimHistory d s).er = s.er := rfl
@[simp] theorem trimHistory_cc (d : Nat) (s : State) : (trimHistory d s).cc = s.cc := rfl
@[simp] theorem trimHistory_pi (d : Nat) (s : State) : (trimHistory d s).pi = s.pi := rfl
@[simp] theorem trimHistory_pending (d : Nat) (s : State) : (trimHistory d s).pending = s.pending := rfl
@[simp] theorem trimHistory_freeCount (d : Nat) (s : State) : (trimHistory d s).freeCount = s.freeCount := rfl

/-! ### clearCycleNoise -/

@[simp] theorem clearCycleNoise_resetLow (s : State) : (clearCycleNoise s).resetLow = s.resetLow := rfl
@[simp] theorem clearCycleNoise_stamp (s : State) : (clearCycleNoise s).stamp = s.stamp := rfl
@[simp] theorem clearCycleNoise_eq_tooth (s : State) : (clearCycleNoise s).eq.tooth = s.eq.tooth := rfl
@[simp] theorem clearCycleNoise_eq_index (s : State) : (clearCycleNoise s).eq.index = s.eq.index := rfl
@[simp] theorem clearCycleNoise_eq_gates (s : State) : (clearCycleNoise s).eq.gates = s.eq.gates := rfl
@[simp] theorem clearCycleNoise_eq_active (s : State) : (clearCycleNoise s).eq.active = s.eq.active := rfl
@[simp] theorem clearCycleNoise_eq_window (s : State) : (clearCycleNoise s).eq.window = none := rfl
@[simp] theorem clearCycleNoise_eq_cycleNoise (s : State) : (clearCycleNoise s).eq.cycleNoise = 0 := rfl
@[simp] theorem clearCycleNoise_eq_totalNoise (s : State) : (clearCycleNoise s).eq.totalNoise = s.eq.totalNoise := rfl
@[simp] theorem clearCycleNoise_eq_latches (s : State) : (clearCycleNoise s).eq.latches = s.eq.latches := rfl
@[simp] theorem clearCycleNoise_pt (s : State) : (clearCycleNoise s).pt = s.pt := rfl
@[simp] theorem clearCycleNoise_ag (s : State) : (clearCycleNoise s).ag = s.ag := rfl
@[simp] theorem clearCycleNoise_ls (s : State) : (clearCycleNoise s).ls = s.ls := rfl
@[simp] theorem clearCycleNoise_ctc (s : State) : (clearCycleNoise s).ctc = s.ctc := rfl
@[simp] theorem clearCycleNoise_fs (s : State) : (clearCycleNoise s).fs = s.fs := rfl
@[simp] theorem clearCycleNoise_td (s : State) : (clearCycleNoise s).td = s.td := rfl
@[simp] theorem clearCycleNoise_er (s : State) : (clearCycleNoise s).er = s.er := rfl
@[simp] theorem clearCycleNoise_cc (s : State) : (clearCycleNoise s).cc = s.cc := rfl
@[simp] theorem clearCycleNoise_pi (s : State) : (clearCycleNoise s).pi = s.pi := rfl
@[simp] theorem clearCycleNoise_pending (s : State) : (clearCycleNoise s).pending = s.pending := rfl
@[simp] theorem clearCycleNoise_freeCount (s : State) : (clearCycleNoise s).freeCount = s.freeCount := rfl

/-! ### clearJudgement -/

@[simp] theorem clearJudgement_resetLow (s : State) : (clearJudgement s).resetLow = s.resetLow := rfl
@[simp] theorem clearJudgement_stamp (s : State) : (clearJudgement s).stamp = s.stamp := rfl
@[simp] theorem clearJudgement_eq (s : State) : (clearJudgement s).eq = s.eq := rfl
@[simp] theorem clearJudgement_pt (s : State) : (clearJudgement s).pt = s.pt := rfl
@[simp] theorem clearJudgement_ag (s : State) : (clearJudgement s).ag = s.ag := rfl
@[simp] theorem clearJudgement_ls_lock (s : State) : (clearJudgement s).ls.lock = s.ls.lock := rfl
@[simp] theorem clearJudgement_ls_settle (s : State) : (clearJudgement s).ls.settle = 0 := rfl
@[simp] theorem clearJudgement_ls_clean (s : State) : (clearJudgement s).ls.clean = 0 := rfl
@[simp] theorem clearJudgement_ls_noisy (s : State) : (clearJudgement s).ls.noisy = 0 := rfl
@[simp] theorem clearJudgement_ls_indexMiss (s : State) : (clearJudgement s).ls.indexMiss = 0 := rfl
@[simp] theorem clearJudgement_ls_holdover (s : State) : (clearJudgement s).ls.holdover = s.ls.holdover := rfl
@[simp] theorem clearJudgement_ls_synthInCycle (s : State) : (clearJudgement s).ls.synthInCycle = false := rfl
@[simp] theorem clearJudgement_ls_closingNoise (s : State) :
    (clearJudgement s).ls.closingNoise = s.ls.closingNoise := rfl
@[simp] theorem clearJudgement_ls_standstill (s : State) : (clearJudgement s).ls.standstill = s.ls.standstill := rfl
@[simp] theorem clearJudgement_ls_indexErrors (s : State) :
    (clearJudgement s).ls.indexErrors = s.ls.indexErrors := rfl
@[simp] theorem clearJudgement_ls_lockMarks (s : State) : (clearJudgement s).ls.lockMarks = s.ls.lockMarks := rfl
@[simp] theorem clearJudgement_ctc (s : State) : (clearJudgement s).ctc = s.ctc := rfl
@[simp] theorem clearJudgement_fs (s : State) : (clearJudgement s).fs = s.fs := rfl
@[simp] theorem clearJudgement_td (s : State) : (clearJudgement s).td = s.td := rfl
@[simp] theorem clearJudgement_er (s : State) : (clearJudgement s).er = s.er := rfl
@[simp] theorem clearJudgement_cc (s : State) : (clearJudgement s).cc = s.cc := rfl
@[simp] theorem clearJudgement_pi (s : State) : (clearJudgement s).pi = s.pi := rfl
@[simp] theorem clearJudgement_pending (s : State) : (clearJudgement s).pending = s.pending := rfl
@[simp] theorem clearJudgement_freeCount (s : State) : (clearJudgement s).freeCount = s.freeCount := rfl

/-! ### invalidateAngle -/

@[simp] theorem invalidateAngle_resetLow (s : State) : (invalidateAngle s).resetLow = s.resetLow := rfl
@[simp] theorem invalidateAngle_stamp (s : State) : (invalidateAngle s).stamp = s.stamp := rfl
@[simp] theorem invalidateAngle_eq (s : State) : (invalidateAngle s).eq = s.eq := rfl
@[simp] theorem invalidateAngle_pt (s : State) : (invalidateAngle s).pt = s.pt := rfl
@[simp] theorem invalidateAngle_ag_tooth (s : State) : (invalidateAngle s).ag.tooth = 0 := rfl
@[simp] theorem invalidateAngle_ag_cycle (s : State) : (invalidateAngle s).ag.cycle = s.ag.cycle := rfl
@[simp] theorem invalidateAngle_ag_valid (s : State) : (invalidateAngle s).ag.valid = false := rfl
@[simp] theorem invalidateAngle_ag_toothStart (s : State) : (invalidateAngle s).ag.toothStart = s.ag.toothStart := rfl
@[simp] theorem invalidateAngle_ag_base (s : State) : (invalidateAngle s).ag.base = 0 := rfl
@[simp] theorem invalidateAngle_ag_timer (s : State) : (invalidateAngle s).ag.timer = s.ag.timer := rfl
@[simp] theorem invalidateAngle_ag_deadline (s : State) : (invalidateAngle s).ag.deadline = none := rfl
@[simp] theorem invalidateAngle_ag_lateWindow (s : State) : (invalidateAngle s).ag.lateWindow = none := rfl
@[simp] theorem invalidateAngle_ag_missCount (s : State) : (invalidateAngle s).ag.missCount = 0 := rfl
@[simp] theorem invalidateAngle_ag_synthSinceReal (s : State) :
    (invalidateAngle s).ag.synthSinceReal = s.ag.synthSinceReal := rfl
@[simp] theorem invalidateAngle_ag_indexPending (s : State) : (invalidateAngle s).ag.indexPending = false := rfl
@[simp] theorem invalidateAngle_ag_freeRunning (s : State) : (invalidateAngle s).ag.freeRunning = false := rfl
@[simp] theorem invalidateAngle_ag_totalMisses (s : State) :
    (invalidateAngle s).ag.totalMisses = s.ag.totalMisses := rfl
@[simp] theorem invalidateAngle_ag_lateTeeth (s : State) : (invalidateAngle s).ag.lateTeeth = s.ag.lateTeeth := rfl
@[simp] theorem invalidateAngle_ag_indexNoise (s : State) : (invalidateAngle s).ag.indexNoise = s.ag.indexNoise := rfl
@[simp] theorem invalidateAngle_ls (s : State) : (invalidateAngle s).ls = s.ls := rfl
@[simp] theorem invalidateAngle_ctc (s : State) : (invalidateAngle s).ctc = s.ctc := rfl
@[simp] theorem invalidateAngle_fs (s : State) : (invalidateAngle s).fs = s.fs := rfl
@[simp] theorem invalidateAngle_td (s : State) : (invalidateAngle s).td = s.td := rfl
@[simp] theorem invalidateAngle_er (s : State) : (invalidateAngle s).er = s.er := rfl
@[simp] theorem invalidateAngle_cc (s : State) : (invalidateAngle s).cc = s.cc := rfl
@[simp] theorem invalidateAngle_pi (s : State) : (invalidateAngle s).pi = s.pi := rfl
@[simp] theorem invalidateAngle_pending (s : State) : (invalidateAngle s).pending = s.pending := rfl
@[simp] theorem invalidateAngle_freeCount (s : State) : (invalidateAngle s).freeCount = s.freeCount := rfl

/-! ### setStandstill -/

@[simp] theorem setStandstill_resetLow (t : Timer) (s : State) : (setStandstill t s).resetLow = s.resetLow := rfl
@[simp] theorem setStandstill_stamp (t : Timer) (s : State) : (setStandstill t s).stamp = s.stamp := rfl
@[simp] theorem setStandstill_eq (t : Timer) (s : State) : (setStandstill t s).eq = s.eq := rfl
@[simp] theorem setStandstill_pt (t : Timer) (s : State) : (setStandstill t s).pt = s.pt := rfl
@[simp] theorem setStandstill_ag (t : Timer) (s : State) : (setStandstill t s).ag = s.ag := rfl
@[simp] theorem setStandstill_ls_lock (t : Timer) (s : State) : (setStandstill t s).ls.lock = s.ls.lock := rfl
@[simp] theorem setStandstill_ls_settle (t : Timer) (s : State) : (setStandstill t s).ls.settle = s.ls.settle := rfl
@[simp] theorem setStandstill_ls_clean (t : Timer) (s : State) : (setStandstill t s).ls.clean = s.ls.clean := rfl
@[simp] theorem setStandstill_ls_noisy (t : Timer) (s : State) : (setStandstill t s).ls.noisy = s.ls.noisy := rfl
@[simp] theorem setStandstill_ls_indexMiss (t : Timer) (s : State) :
    (setStandstill t s).ls.indexMiss = s.ls.indexMiss := rfl
@[simp] theorem setStandstill_ls_holdover (t : Timer) (s : State) :
    (setStandstill t s).ls.holdover = s.ls.holdover := rfl
@[simp] theorem setStandstill_ls_synthInCycle (t : Timer) (s : State) :
    (setStandstill t s).ls.synthInCycle = s.ls.synthInCycle := rfl
@[simp] theorem setStandstill_ls_closingNoise (t : Timer) (s : State) :
    (setStandstill t s).ls.closingNoise = s.ls.closingNoise := rfl
@[simp] theorem setStandstill_ls_standstill (t : Timer) (s : State) : (setStandstill t s).ls.standstill = t := rfl
@[simp] theorem setStandstill_ls_indexErrors (t : Timer) (s : State) :
    (setStandstill t s).ls.indexErrors = s.ls.indexErrors := rfl
@[simp] theorem setStandstill_ls_lockMarks (t : Timer) (s : State) :
    (setStandstill t s).ls.lockMarks = s.ls.lockMarks := rfl
@[simp] theorem setStandstill_ctc (t : Timer) (s : State) : (setStandstill t s).ctc = s.ctc := rfl
@[simp] theorem setStandstill_fs (t : Timer) (s : State) : (setStandstill t s).fs = s.fs := rfl
@[simp] theorem setStandstill_td (t : Timer) (s : State) : (setStandstill t s).td = s.td := rfl
@[simp] theorem setStandstill_er (t : Timer) (s : State) : (setStandstill t s).er = s.er := rfl
@[simp] theorem setStandstill_cc (t : Timer) (s : State) : (setStandstill t s).cc = s.cc := rfl
@[simp] theorem setStandstill_pi (t : Timer) (s : State) : (setStandstill t s).pi = s.pi := rfl
@[simp] theorem setStandstill_pending (t : Timer) (s : State) : (setStandstill t s).pending = s.pending := rfl
@[simp] theorem setStandstill_freeCount (t : Timer) (s : State) : (setStandstill t s).freeCount = s.freeCount := rfl

/-! ### modOwned -/

@[simp] theorem modOwned_resetLow (p : Port) (f : Nat → Nat) (s : State) : (modOwned p f s).resetLow = s.resetLow := rfl
@[simp] theorem modOwned_stamp (p : Port) (f : Nat → Nat) (s : State) : (modOwned p f s).stamp = s.stamp := rfl
@[simp] theorem modOwned_eq (p : Port) (f : Nat → Nat) (s : State) : (modOwned p f s).eq = s.eq := rfl
@[simp] theorem modOwned_pt (p : Port) (f : Nat → Nat) (s : State) : (modOwned p f s).pt = s.pt := rfl
@[simp] theorem modOwned_ag (p : Port) (f : Nat → Nat) (s : State) : (modOwned p f s).ag = s.ag := rfl
@[simp] theorem modOwned_ls (p : Port) (f : Nat → Nat) (s : State) : (modOwned p f s).ls = s.ls := rfl
@[simp] theorem modOwned_ctc_entries (p : Port) (f : Nat → Nat) (s : State) :
    (modOwned p f s).ctc.entries = s.ctc.entries := rfl
@[simp] theorem modOwned_ctc_owned (p : Port) (f : Nat → Nat) (s : State) :
    (modOwned p f s).ctc.owned = vmod s.ctc.owned p f := rfl
@[simp] theorem modOwned_ctc_quota (p : Port) (f : Nat → Nat) (s : State) :
    (modOwned p f s).ctc.quota = s.ctc.quota := rfl
@[simp] theorem modOwned_fs (p : Port) (f : Nat → Nat) (s : State) : (modOwned p f s).fs = s.fs := rfl
@[simp] theorem modOwned_td (p : Port) (f : Nat → Nat) (s : State) : (modOwned p f s).td = s.td := rfl
@[simp] theorem modOwned_er (p : Port) (f : Nat → Nat) (s : State) : (modOwned p f s).er = s.er := rfl
@[simp] theorem modOwned_cc (p : Port) (f : Nat → Nat) (s : State) : (modOwned p f s).cc = s.cc := rfl
@[simp] theorem modOwned_pi (p : Port) (f : Nat → Nat) (s : State) : (modOwned p f s).pi = s.pi := rfl
@[simp] theorem modOwned_pending (p : Port) (f : Nat → Nat) (s : State) : (modOwned p f s).pending = s.pending := rfl
@[simp] theorem modOwned_freeCount (p : Port) (f : Nat → Nat) (s : State) : (modOwned p f s).freeCount = s.freeCount := rfl

/-! ### leaveWaiting -/

@[simp] theorem leaveWaiting_resetLow (p : Port) (s : State) : (leaveWaiting p s).resetLow = s.resetLow := rfl
@[simp] theorem leaveWaiting_stamp (p : Port) (s : State) : (leaveWaiting p s).stamp = s.stamp := rfl
@[simp] theorem leaveWaiting_eq (p : Port) (s : State) : (leaveWaiting p s).eq = s.eq := rfl
@[simp] theorem leaveWaiting_pt (p : Port) (s : State) : (leaveWaiting p s).pt = s.pt := rfl
@[simp] theorem leaveWaiting_ag (p : Port) (s : State) : (leaveWaiting p s).ag = s.ag := rfl
@[simp] theorem leaveWaiting_ls (p : Port) (s : State) : (leaveWaiting p s).ls = s.ls := rfl
@[simp] theorem leaveWaiting_ctc (p : Port) (s : State) : (leaveWaiting p s).ctc = s.ctc := rfl
@[simp] theorem leaveWaiting_fs (p : Port) (s : State) : (leaveWaiting p s).fs = s.fs := rfl
@[simp] theorem leaveWaiting_td (p : Port) (s : State) : (leaveWaiting p s).td = s.td := rfl
@[simp] theorem leaveWaiting_er (p : Port) (s : State) : (leaveWaiting p s).er = s.er := rfl
@[simp] theorem leaveWaiting_cc_holder (p : Port) (s : State) : (leaveWaiting p s).cc.holder = s.cc.holder := rfl
@[simp] theorem leaveWaiting_cc_waiting (p : Port) (s : State) :
    (leaveWaiting p s).cc.waiting = s.cc.waiting.filter fun q => q ≠ p := rfl
@[simp] theorem leaveWaiting_cc_active (p : Port) (s : State) : (leaveWaiting p s).cc.active = s.cc.active := rfl
@[simp] theorem leaveWaiting_cc_staged (p : Port) (s : State) : (leaveWaiting p s).cc.staged = s.cc.staged := rfl
@[simp] theorem leaveWaiting_cc_pendingRecord (p : Port) (s : State) :
    (leaveWaiting p s).cc.pendingRecord = s.cc.pendingRecord := rfl
@[simp] theorem leaveWaiting_cc_claimMarks (p : Port) (s : State) :
    (leaveWaiting p s).cc.claimMarks = s.cc.claimMarks := rfl
@[simp] theorem leaveWaiting_pi (p : Port) (s : State) : (leaveWaiting p s).pi = s.pi := rfl
@[simp] theorem leaveWaiting_pending (p : Port) (s : State) : (leaveWaiting p s).pending = s.pending := rfl
@[simp] theorem leaveWaiting_freeCount (p : Port) (s : State) : (leaveWaiting p s).freeCount = s.freeCount := rfl

end Sys2Proof.Machine
end

