-- ==== Sys2Proof/Laws/Firing.lean ====
section
/-! SUPPORT. What the shared operations of the Firing Scheduler can do, said once: the frame that every one of them keeps
(`FiringFrame`), that none adds a ticket while points are fired, and that the lists are empty after a flush or a teardown. -/

namespace Sys2Proof.Machine

/-- What the Firing Scheduler never touches: the reference path, the claim, the ports, ownership, the settings of entries
(but for the fire count), of tracks and of subscriptions, and the causes that LS and CC set. -/
structure FiringFrame (s t : State) : Prop where
  resetLow : t.resetLow = s.resetLow
  stamp : t.stamp = s.stamp
  eq : t.eq = s.eq
  pt : t.pt = s.pt
  ag : t.ag = s.ag
  ls : t.ls = s.ls
  cc : t.cc = s.cc
  pi : t.pi = s.pi
  pending : t.pending = s.pending
  freeCount : t.freeCount = s.freeCount
  owned : t.ctc.owned = s.ctc.owned
  quota : t.ctc.quota = s.ctc.quota
  entries : ∀ i : EntryNo, t.ctc.entries[i].owner = s.ctc.entries[i].owner
    ∧ { t.ctc.entries[i].image with count := 0 } = { s.ctc.entries[i].image with count := 0 }
  tracks : ∀ k : TrackNo, t.td[k].owner = s.td[k].owner ∧ t.td[k].inverted = s.td[k].inverted
    ∧ t.td[k].safeActive = s.td[k].safeActive ∧ t.td[k].keepOnLoss = s.td[k].keepOnLoss
  ports : ∀ p : Port, t.er[p].portMask = s.er[p].portMask ∧ t.er[p].slots = s.er[p].slots
    ∧ t.er[p].watermark = s.er[p].watermark ∧ t.er[p].attnMask = s.er[p].attnMask
    ∧ t.er[p].lockCause = s.er[p].lockCause ∧ t.er[p].claimCause = s.er[p].claimCause
    ∧ t.er[p].popMark = s.er[p].popMark

theorem FiringFrame.refl (s : State) : FiringFrame s s := by constructor <;> simp

theorem FiringFrame.trans {s t u : State} (a : FiringFrame s t) (b : FiringFrame t u) : FiringFrame s u where
  resetLow := b.resetLow.trans a.resetLow
  stamp := b.stamp.trans a.stamp
  eq := b.eq.trans a.eq
  pt := b.pt.trans a.pt
  ag := b.ag.trans a.ag
  ls := b.ls.trans a.ls
  cc := b.cc.trans a.cc
  pi := b.pi.trans a.pi
  pending := b.pending.trans a.pending
  freeCount := b.freeCount.trans a.freeCount
  owned := b.owned.trans a.owned
  quota := b.quota.trans a.quota
  entries := fun i => ⟨(b.entries i).1.trans (a.entries i).1, (b.entries i).2.trans (a.entries i).2⟩
  tracks := fun k => by
    obtain ⟨h1, h2, h3, h4⟩ := a.tracks k
    obtain ⟨g1, g2, g3, g4⟩ := b.tracks k
    exact ⟨g1.trans h1, g2.trans h2, g3.trans h3, g4.trans h4⟩
  ports := fun p => by
    obtain ⟨h1, h2, h3, h4, h5, h6, h7⟩ := a.ports p
    obtain ⟨g1, g2, g3, g4, g5, g6, g7⟩ := b.ports p
    exact ⟨g1.trans h1, g2.trans h2, g3.trans h3, g4.trans h4, g5.trans h5, g6.trans h6, g7.trans h7⟩

/-- The firing set, the angle, the period and the gates read the same across the frame. -/
theorem FiringFrame.inFiring {s t : State} (h : FiringFrame s t) : t.inFiring = s.inFiring := by
  simp [State.inFiring, h.ls]

theorem FiringFrame.angle {s t : State} (h : FiringFrame s t) : t.angle = s.angle := by
  simp [State.angle, State.period, State.toothEnd, State.estimate, h.ls, h.ag, h.pt, h.cc]

theorem FiringFrame.gateSatisfied {s t : State} (h : FiringFrame s t) (g : GateCond) :
    gateSatisfied t g = gateSatisfied s g := by
  cases g <;> simp [Machine.gateSatisfied, h.eq]

/-! ### Delivery (R154) -/

/-- Delivery leaves a port's settings, the causes LS and CC set, and the POP mark. -/
theorem EventPort.deliver_frame (q : EventPort) (p : Port) (ev : Event) :
    (q.deliver p ev).portMask = q.portMask ∧ (q.deliver p ev).slots = q.slots
      ∧ (q.deliver p ev).watermark = q.watermark ∧ (q.deliver p ev).attnMask = q.attnMask
      ∧ (q.deliver p ev).lockCause = q.lockCause ∧ (q.deliver p ev).claimCause = q.claimCause
      ∧ (q.deliver p ev).popMark = q.popMark := by
  unfold EventPort.deliver
  split
  · simp
  · split
    · simp
    · unfold EventPort.append
      split <;> simp

theorem post_frame (ev : Event) (s : State) : FiringFrame s (post ev s) where
  resetLow := rfl
  stamp := rfl
  eq := rfl
  pt := rfl
  ag := rfl
  ls := rfl
  cc := rfl
  pi := rfl
  pending := rfl
  freeCount := rfl
  owned := rfl
  quota := rfl
  entries := fun _ => ⟨rfl, rfl⟩
  tracks := fun _ => ⟨rfl, rfl, rfl, rfl⟩
  ports := fun p => by simpa using EventPort.deliver_frame s.er[p] p ev

/-- The lists after a post are the lists before it. -/
theorem post_fs' (ev : Event) (s : State) : (post ev s).fs = s.fs := rfl

theorem postEntry_frame (kind : EventKind) (o : Occasion) (i : EntryNo) (s : State) :
    FiringFrame s (postEntry kind o i s) := by
  unfold postEntry
  split
  · exact .refl s
  · exact post_frame _ s

@[simp] theorem postEntry_fs (kind : EventKind) (o : Occasion) (i : EntryNo) (s : State) :
    (postEntry kind o i s).fs = s.fs := by
  unfold postEntry
  split <;> rfl

@[simp] theorem postEntry_ctc (kind : EventKind) (o : Occasion) (i : EntryNo) (s : State) :
    (postEntry kind o i s).ctc = s.ctc := by
  unfold postEntry
  split <;> rfl

@[simp] theorem postEntry_td (kind : EventKind) (o : Occasion) (i : EntryNo) (s : State) :
    (postEntry kind o i s).td = s.td := by
  unfold postEntry
  split <;> rfl

/-! ### Changes of one entry, one track and the lists -/

/-- A change of FS's own record alone keeps the frame. -/
theorem firingFrame_of_fs (s : State) (f : FiringScheduler) : FiringFrame s { s with fs := f } := by
  constructor <;> simp

/-- A change of one entry that leaves its owner and its settings keeps the frame. -/
theorem modEntry_frame (s : State) (i : EntryNo) (f : Entry → Entry)
    (h : (f s.ctc.entries[i]).owner = s.ctc.entries[i].owner
      ∧ { (f s.ctc.entries[i]).image with count := 0 } = { s.ctc.entries[i].image with count := 0 }) :
    FiringFrame s (s.modEntry i f) where
  resetLow := rfl
  stamp := rfl
  eq := rfl
  pt := rfl
  ag := rfl
  ls := rfl
  cc := rfl
  pi := rfl
  pending := rfl
  freeCount := rfl
  owned := rfl
  quota := rfl
  entries := fun j => by
    simp only [State.modEntry_ctc_entries, vmod_at]
    split
    · next e => subst e; exact h
    · exact ⟨rfl, rfl⟩
  tracks := fun _ => ⟨rfl, rfl, rfl, rfl⟩
  ports := fun _ => ⟨rfl, rfl, rfl, rfl, rfl, rfl, rfl⟩

/-- A change of one track that leaves its owner and its settings keeps the frame. -/
theorem modTrack_frame (s : State) (k : TrackNo) (f : Track → Track)
    (h : ∀ t : Track, (f t).owner = t.owner ∧ (f t).inverted = t.inverted ∧ (f t).safeActive = t.safeActive
      ∧ (f t).keepOnLoss = t.keepOnLoss) : FiringFrame s (s.modTrack k f) where
  resetLow := rfl
  stamp := rfl
  eq := rfl
  pt := rfl
  ag := rfl
  ls := rfl
  cc := rfl
  pi := rfl
  pending := rfl
  freeCount := rfl
  owned := rfl
  quota := rfl
  entries := fun _ => ⟨rfl, rfl⟩
  tracks := fun j => by
    simp only [State.modTrack_td, vmod_at]
    split
    · exact h _
    · exact ⟨rfl, rfl, rfl, rfl⟩
  ports := fun _ => ⟨rfl, rfl, rfl, rfl, rfl, rfl, rfl⟩

theorem onTrack_frame (k : Option TrackNo) (f : Track → Track) (s : State)
    (h : ∀ t : Track, (f t).owner = t.owner ∧ (f t).inverted = t.inverted ∧ (f t).safeActive = t.safeActive
      ∧ (f t).keepOnLoss = t.keepOnLoss) : FiringFrame s (onTrack k f s) := by
  unfold onTrack
  split
  · exact .refl s
  · exact modTrack_frame s _ f h

@[simp] theorem onTrack_fs (k : Option TrackNo) (f : Track → Track) (s : State) : (onTrack k f s).fs = s.fs := by
  unfold onTrack
  split <;> rfl

@[simp] theorem onTrack_ctc (k : Option TrackNo) (f : Track → Track) (s : State) : (onTrack k f s).ctc = s.ctc := by
  unfold onTrack
  split <;> rfl

@[simp] theorem onTrack_er (k : Option TrackNo) (f : Track → Track) (s : State) : (onTrack k f s).er = s.er := by
  unfold onTrack
  split <;> rfl

/-- The track an entry names takes the change, and every other track stays. -/
theorem onTrack_at (k : Option TrackNo) (f : Track → Track) (s : State) (j : TrackNo) :
    (onTrack k f s).td[j] = if k = some j then f s.td[j] else s.td[j] := by
  unfold onTrack
  split
  · simp
  · simp only [State.modTrack_td, vmod_at, Option.some.injEq]

theorem removePoints_frame (i : EntryNo) (s : State) : FiringFrame s (removePoints i s) := firingFrame_of_fs s _

theorem markTaken_frame (i : EntryNo) (pt : Point) (s : State) : FiringFrame s (markTaken i pt s) :=
  firingFrame_of_fs s _

theorem spend_frame (o : Occasion) (i : EntryNo) (s : State) : FiringFrame s (spend o i s) :=
  (removePoints_frame i s).trans ((modEntry_frame _ i _ ⟨rfl, rfl⟩).trans (postEntry_frame _ _ i _))

/-! ### Firing a point (R116 to R119) -/

theorem startAction_frame (im : EntryImage) (s : State) : FiringFrame s (startAction im s) := by
  unfold startAction
  split
  · exact .refl s
  · exact onTrack_frame _ _ s fun _ => ⟨rfl, rfl, rfl, rfl⟩
  · exact onTrack_frame _ _ s fun _ => ⟨rfl, rfl, rfl, rfl⟩
  · split
    · exact .refl s
    · exact onTrack_frame _ _ s fun _ => ⟨rfl, rfl, rfl, rfl⟩
  · exact .refl s

@[simp] theorem startAction_fs (im : EntryImage) (s : State) : (startAction im s).fs = s.fs := by
  unfold startAction
  split
  · rfl
  · simp
  · simp
  · split <;> simp
  · rfl

@[simp] theorem startAction_ctc (im : EntryImage) (s : State) : (startAction im s).ctc = s.ctc := by
  unfold startAction
  split
  · rfl
  · simp
  · simp
  · split <;> simp
  · rfl

theorem refuseStart_frame (o : Occasion) (i : EntryNo) (s : State) : FiringFrame s (refuseStart o i s) := by
  unfold refuseStart
  split
  · exact postEntry_frame _ o i s
  · exact .refl s

@[simp] theorem refuseStart_fs (o : Occasion) (i : EntryNo) (s : State) : (refuseStart o i s).fs = s.fs := by
  unfold refuseStart
  split
  · simp
  · rfl

theorem firePointStart_frame (o : Occasion) (i : EntryNo) (s : State) : FiringFrame s (firePointStart o i s) := by
  have h : FiringFrame s ((postEntry .fire o i (startAction s.ctc.entries[i].image s)).modEntry i (Entry.countStart o)) :=
    (startAction_frame _ s).trans ((postEntry_frame _ o i _).trans (modEntry_frame _ i _ ⟨rfl, rfl⟩))
  unfold firePointStart
  simp only
  split
  · split
    · exact h.trans (spend_frame o i _)
    · exact h
  · exact refuseStart_frame o i s

theorem fireWindowStart_frame (o : Occasion) (i : EntryNo) (s : State) : FiringFrame s (fireWindowStart o i s) := by
  unfold fireWindowStart
  simp only
  split
  · exact .refl s
  · split
    · refine FiringFrame.trans ?_ (modEntry_frame _ i _ ⟨rfl, rfl⟩)
      refine FiringFrame.trans ?_ (postEntry_frame _ o i _)
      refine FiringFrame.trans ?_ (onTrack_frame _ _ _ fun _ => ⟨rfl, rfl, rfl, rfl⟩)
      exact modEntry_frame s i _ ⟨rfl, rfl⟩
    · exact refuseStart_frame o i s

theorem closeWindow_frame (o : Occasion) (i : EntryNo) (s : State) : FiringFrame s (closeWindow o i s) := by
  unfold closeWindow
  refine FiringFrame.trans ?_ (postEntry_frame _ o i _)
  refine FiringFrame.trans ?_ (onTrack_frame _ _ _ fun _ => ⟨rfl, rfl, rfl, rfl⟩)
  exact modEntry_frame s i _ ⟨rfl, rfl⟩

theorem fireWindowEnd_frame (o : Occasion) (i : EntryNo) (s : State) : FiringFrame s (fireWindowEnd o i s) := by
  unfold fireWindowEnd
  split
  · split
    · exact (closeWindow_frame o i s).trans (spend_frame o i _)
    · exact closeWindow_frame o i s
  · exact .refl s

theorem fire_frame (o : Occasion) (i : EntryNo) (pt : Point) (s : State) : FiringFrame s (fire o i pt s) := by
  refine (markTaken_frame i pt s).trans ?_
  unfold fire
  simp only
  split
  · split
    · exact fireWindowStart_frame o i _
    · exact fireWindowEnd_frame o i _
    · exact firePointStart_frame o i _
    · exact firePointStart_frame o i _
    · exact firePointStart_frame o i _
    · exact firePointStart_frame o i _
    · exact .refl _
    · exact .refl _
    · exact .refl _
    · exact .refl _
  · exact .refl _

theorem forceClose_frame (spends : Bool) (i : EntryNo) (s : State) : FiringFrame s (forceClose spends i s) := by
  unfold forceClose
  split
  · simp only
    split
    · exact (closeWindow_frame _ i s).trans (spend_frame _ i _)
    · exact closeWindow_frame _ i s
  · exact .refl s

/-! ### Firing adds nothing to the lists (R106, R107) -/

/-- The lists of t are the lists of s with points of some entries removed, and FS's counts stay. -/
structure ListsShrink (s t : State) : Prop where
  tickets : t.fs.tickets.Sublist s.fs.tickets
  deferred : t.fs.deferred.Sublist s.fs.deferred
  deferredCycle : t.fs.deferredCycle = s.fs.deferredCycle
  cycleSeen : t.fs.cycleSeen = s.fs.cycleSeen
  overflows : t.fs.overflows = s.fs.overflows

theorem ListsShrink.of_eq {s t : State} (h : t.fs = s.fs) : ListsShrink s t := by
  constructor <;> simp [h]

theorem ListsShrink.trans {s t u : State} (a : ListsShrink s t) (b : ListsShrink t u) : ListsShrink s u where
  tickets := b.tickets.trans a.tickets
  deferred := b.deferred.trans a.deferred
  deferredCycle := b.deferredCycle.trans a.deferredCycle
  cycleSeen := b.cycleSeen.trans a.cycleSeen
  overflows := b.overflows.trans a.overflows

theorem removePoints_shrinks (i : EntryNo) (s : State) : ListsShrink s (removePoints i s) := by
  constructor <;> simp

theorem markTaken_shrinks (i : EntryNo) (pt : Point) (s : State) : ListsShrink s (markTaken i pt s) := by
  constructor <;> simp

theorem spend_shrinks (o : Occasion) (i : EntryNo) (s : State) : ListsShrink s (spend o i s) :=
  (removePoints_shrinks i s).trans (.of_eq (by simp [spend]))

@[simp] theorem closeWindow_fs (o : Occasion) (i : EntryNo) (s : State) : (closeWindow o i s).fs = s.fs := by
  simp [closeWindow]

theorem firePointStart_shrinks (o : Occasion) (i : EntryNo) (s : State) : ListsShrink s (firePointStart o i s) := by
  unfold firePointStart
  simp only
  split
  · split
    · refine ListsShrink.trans ?_ (spend_shrinks o i _)
      exact .of_eq (by simp)
    · exact .of_eq (by simp)
  · exact .of_eq (by simp)

theorem fireWindowStart_shrinks (o : Occasion) (i : EntryNo) (s : State) : ListsShrink s (fireWindowStart o i s) := by
  unfold fireWindowStart
  simp only
  split
  · exact .of_eq rfl
  · split
    · exact .of_eq (by simp)
    · exact .of_eq (by simp)

theorem fireWindowEnd_shrinks (o : Occasion) (i : EntryNo) (s : State) : ListsShrink s (fireWindowEnd o i s) := by
  unfold fireWindowEnd
  split
  · split
    · refine ListsShrink.trans ?_ (spend_shrinks o i _)
      exact .of_eq (by simp)
    · exact .of_eq (by simp)
  · exact .of_eq rfl

theorem fire_shrinks (o : Occasion) (i : EntryNo) (pt : Point) (s : State) : ListsShrink s (fire o i pt s) := by
  refine (markTaken_shrinks i pt s).trans ?_
  unfold fire
  simp only
  split
  · split
    · exact fireWindowStart_shrinks o i _
    · exact fireWindowEnd_shrinks o i _
    · exact firePointStart_shrinks o i _
    · exact firePointStart_shrinks o i _
    · exact firePointStart_shrinks o i _
    · exact firePointStart_shrinks o i _
    · exact .of_eq rfl
    · exact .of_eq rfl
    · exact .of_eq rfl
    · exact .of_eq rfl
  · exact .of_eq rfl

theorem forceClose_shrinks (spends : Bool) (i : EntryNo) (s : State) : ListsShrink s (forceClose spends i s) := by
  unfold forceClose
  split
  · simp only
    split
    · refine ListsShrink.trans ?_ (spend_shrinks _ i _)
      exact .of_eq (by simp)
    · exact .of_eq (by simp)
  · exact .of_eq rfl

/-! ### Folds over the entries -/

/-- A fold of operations that each keep the frame keeps it. -/
theorem foldl_frame {α : Type} (f : State → α → State) (h : ∀ s a, FiringFrame s (f s a)) (l : List α) (s : State) :
    FiringFrame s (l.foldl f s) := by
  induction l generalizing s with
  | nil => exact .refl s
  | cons a rest ih => exact (h s a).trans (ih (f s a))

/-- A fold of operations that each shrink the lists shrinks them. -/
theorem foldl_shrinks {α : Type} (f : State → α → State) (h : ∀ s a, ListsShrink s (f s a)) (l : List α) (s : State) :
    ListsShrink s (l.foldl f s) := by
  induction l generalizing s with
  | nil => exact .of_eq rfl
  | cons a rest ih => exact (h s a).trans (ih (f s a))

/-! ### Tickets and deferred points (R111 to R113) -/

theorem defer_frame (i : EntryNo) (pt : Point) (s : State) : FiringFrame s (defer i pt s) := firingFrame_of_fs s _

theorem addTicket_frame (t : Ticket) (s : State) : FiringFrame s (addTicket t s) := by
  unfold addTicket
  split
  · exact firingFrame_of_fs s _
  · exact (firingFrame_of_fs s _).trans (defer_frame _ _ _)

/-- A ticket that joins a list is one more member of it. -/
theorem insertTicket_perm (now : Stamp) (t : Ticket) (l : List Ticket) : (insertTicket now t l).Perm (t :: l) := by
  induction l with
  | nil => exact .refl _
  | cons u rest ih =>
      unfold insertTicket
      split
      · exact .refl _
      · exact (ih.cons u).trans (.swap t u rest)

theorem insertTicket_length (now : Stamp) (t : Ticket) (l : List Ticket) :
    (insertTicket now t l).length = l.length + 1 := by
  simpa using (insertTicket_perm now t l).length_eq

theorem mem_insertTicket (now : Stamp) (t u : Ticket) (l : List Ticket) :
    u ∈ insertTicket now t l ↔ u = t ∨ u ∈ l := by
  simpa using (insertTicket_perm now t l).mem_iff

theorem insertDeferred_perm (d : DeferredPoint) (l : List DeferredPoint) : (insertDeferred d l).Perm (d :: l) := by
  induction l with
  | nil => exact .refl _
  | cons u rest ih =>
      unfold insertDeferred
      split
      · exact .refl _
      · exact (ih.cons u).trans (.swap d u rest)

/-! ### Enumeration (R110, R111) -/

theorem enumeratePoint_frame (b stop : Nat) (period : Option Nat) (i : EntryNo) (pt : Point) (s : State) :
    FiringFrame s (enumeratePoint b stop period i pt s) := by
  unfold enumeratePoint
  split
  · exact .refl s
  · split
    · split
      · exact fire_frame _ i pt s
      · split
        · exact defer_frame i pt s
        · exact addTicket_frame _ s
    · exact .refl s

theorem enumerateEntry_frame (b stop : Nat) (period : Option Nat) (s : State) (i : EntryNo) :
    FiringFrame s (enumerateEntry b stop period s i) := by
  unfold enumerateEntry
  split
  · exact (enumeratePoint_frame b stop period i .stop s).trans (enumeratePoint_frame b stop period i .start _)
  · exact .refl s

theorem enumerate_frame (b stop : Nat) (s : State) : FiringFrame s (enumerate b stop s) :=
  foldl_frame _ (enumerateEntry_frame b stop s.period) allEntries s

/-! ### A step at the scheduler (R105 to R110) -/

theorem flushTickets_frame (angle fuel : Nat) (s : State) : FiringFrame s (flushTickets angle fuel s) := by
  induction fuel generalizing s with
  | zero => exact .refl s
  | succ fuel ih =>
      unfold flushTickets
      split
      · exact .refl s
      · exact (firingFrame_of_fs s _).trans ((fire_frame _ _ _ _).trans (ih _))

/-- As many turns as there are tickets empty the list: each takes one off, and firing adds none (R106). -/
theorem flushTickets_empty (angle fuel : Nat) (s : State) (h : s.fs.tickets.length ≤ fuel) :
    (flushTickets angle fuel s).fs.tickets = [] := by
  induction fuel generalizing s with
  | zero => simpa [flushTickets] using h
  | succ fuel ih =>
      unfold flushTickets
      split
      · next e => exact e
      · next t rest e =>
          apply ih
          refine Nat.le_trans (fire_shrinks _ _ _ _).tickets.length_le ?_
          simp only [e, List.length_cons] at h
          exact Nat.le_of_succ_le_succ h

theorem fireDeferred_frame (angle : Nat) (cycle : Option Cycle) (fuel : Nat) (s : State) :
    FiringFrame s (fireDeferred angle cycle fuel s) := by
  induction fuel generalizing s with
  | zero => exact .refl s
  | succ fuel ih =>
      unfold fireDeferred
      split
      · exact .refl s
      · exact (firingFrame_of_fs s _).trans ((fire_frame _ _ _ _).trans (ih _))

/-- Firing the deferred points adds no ticket (R107). -/
theorem fireDeferred_tickets (angle : Nat) (cycle : Option Cycle) (fuel : Nat) (s : State) :
    (fireDeferred angle cycle fuel s).fs.tickets.Sublist s.fs.tickets := by
  induction fuel generalizing s with
  | zero => exact .refl _
  | succ fuel ih =>
      unfold fireDeferred
      split
      · exact .refl _
      · exact (ih _).trans (fire_shrinks _ _ _ _).tickets

theorem flushDeferred_frame (angle : Nat) (s : State) : FiringFrame s (flushDeferred angle s) := by
  unfold flushDeferred
  exact (fireDeferred_frame angle _ _ s).trans (firingFrame_of_fs _ _)

theorem flushDeferred_tickets (angle : Nat) (s : State) :
    (flushDeferred angle s).fs.tickets.Sublist s.fs.tickets := fireDeferred_tickets angle _ _ s

@[simp] theorem flushDeferred_deferred (angle : Nat) (s : State) : (flushDeferred angle s).fs.deferred = [] := rfl

theorem clearTaken_frame (cycle : Cycle) (s : State) : FiringFrame s (clearTaken cycle s) := by
  unfold clearTaken
  split
  · exact .refl s
  · exact firingFrame_of_fs s _

@[simp] theorem clearTaken_tickets (cycle : Cycle) (s : State) : (clearTaken cycle s).fs.tickets = s.fs.tickets := by
  unfold clearTaken
  split <;> rfl

@[simp] theorem clearTaken_deferred (cycle : Cycle) (s : State) : (clearTaken cycle s).fs.deferred = s.fs.deferred := by
  unfold clearTaken
  split <;> rfl

@[simp] theorem clearTaken_cycleSeen (cycle : Cycle) (s : State) : (clearTaken cycle s).fs.cycleSeen = cycle := by
  unfold clearTaken
  split
  · next e => exact e.symm
  · rfl

theorem activateArming_frame (s : State) : FiringFrame s (activateArming s) := by
  constructor
  case entries =>
    intro i
    simp only [activateArming_ctc_entries, vall_at]
    split <;> exact ⟨rfl, rfl⟩
  all_goals simp

theorem stepEnumeration_frame (rep : StepReport) (s : State) : FiringFrame s (stepEnumeration rep s) := by
  unfold stepEnumeration
  split
  · exact enumerate_frame _ _ s
  · exact .refl s

/-- Parts 1 to 3 of a step (R106 to R108). -/
theorem stepFlush_frame (angle : Nat) (cycle : Cycle) (s : State) :
    FiringFrame s (clearTaken cycle (flushDeferred angle (flushTickets angle s.fs.tickets.length s))) :=
  (flushTickets_frame angle _ s).trans ((flushDeferred_frame angle _).trans (clearTaken_frame cycle _))

/-- After parts 1 to 3 of a step both lists are empty, and the step's cycle is the cycle seen. -/
theorem stepFlush_lists (angle : Nat) (cycle : Cycle) (s : State) :
    (clearTaken cycle (flushDeferred angle (flushTickets angle s.fs.tickets.length s))).fs.tickets = []
      ∧ (clearTaken cycle (flushDeferred angle (flushTickets angle s.fs.tickets.length s))).fs.deferred = []
      ∧ (clearTaken cycle (flushDeferred angle (flushTickets angle s.fs.tickets.length s))).fs.cycleSeen = cycle := by
  refine ⟨?_, by simp, by simp⟩
  rw [clearTaken_tickets, ← List.sublist_nil]
  have h := flushDeferred_tickets angle (flushTickets angle s.fs.tickets.length s)
  rwa [flushTickets_empty angle _ s (Nat.le_refl _)] at h

/-! ### The loss teardown, HOLDOVER and FREERUN_ON (R125, R127, R128) -/

theorem discardLists_frame (s : State) : FiringFrame s (discardLists s) := firingFrame_of_fs s _

theorem forceCloseAll_frame (s : State) : FiringFrame s (forceCloseAll s) :=
  foldl_frame _ (fun t i => forceClose_frame true i t) allEntries s

theorem applyOnLoss_frame (s : State) : FiringFrame s (applyOnLoss s) := by
  constructor
  case tracks =>
    intro k
    simp only [applyOnLoss_td, vall_at, Track.onLoss]
    split <;> exact ⟨rfl, rfl, rfl, rfl⟩
  all_goals simp

/-- Parts 1 to 4 of the teardown, before a pending commit is applied (R125). -/
theorem teardownParts_frame (s : State) :
    FiringFrame s (activateArming (applyOnLoss (forceCloseAll (discardLists s)))) :=
  (discardLists_frame s).trans ((forceCloseAll_frame _).trans ((applyOnLoss_frame _).trans (activateArming_frame _)))

/-- After parts 1 to 4 of the teardown both lists are empty (R125). -/
theorem teardownParts_lists (s : State) :
    (activateArming (applyOnLoss (forceCloseAll (discardLists s)))).fs.tickets = []
      ∧ (activateArming (applyOnLoss (forceCloseAll (discardLists s)))).fs.deferred = [] := by
  have h : ListsShrink (discardLists s) (forceCloseAll (discardLists s)) :=
    foldl_shrinks _ (fun t i => forceClose_shrinks true i t) allEntries _
  constructor
  · simpa using h.tickets
  · simpa using h.deferred

theorem holdoverDiscard_frame (s : State) : FiringFrame s (holdoverDiscard s) := by
  unfold holdoverDiscard
  refine (foldl_frame _ (fun t i => ?_) allEntries s).trans (foldl_frame _ (fun t i => ?_) allEntries _)
  · split
    · exact removePoints_frame i t
    · exact .refl t
  · split
    · exact forceClose_frame true i t
    · exact .refl t

theorem firePassed_frame (b fuel : Nat) (s : State) : FiringFrame s (firePassed b fuel s) := by
  induction fuel generalizing s with
  | zero => exact .refl s
  | succ fuel ih =>
      unfold firePassed
      split
      · exact .refl s
      · exact (firingFrame_of_fs s _).trans ((fire_frame _ _ _ _).trans (ih _))

theorem freerunRetime_frame (s : State) : FiringFrame s (freerunRetime s) := by
  unfold freerunRetime
  exact (firePassed_frame _ _ s).trans ((firingFrame_of_fs _ _).trans (enumerate_frame _ _ _))

end Sys2Proof.Machine
end

