-- ==== Sys2Proof/Laws/PerInstr.lean ====
section
/-! SUPPORT. The per-command family RequestLength: the bytes of a request are its code and as many operand bytes as the
request summary gives that code (R197). -/

namespace Sys2Proof.Laws

/-- A request's bytes are a code and the operand bytes that the request summary counts for it (R189, R197). -/
def RequestLength.Statement (i : Instr) : Prop :=
  ∀ p bytes, encodeRequest i = some (p, bytes) →
    ∃ code rest, bytes = code :: rest ∧ rest.length = (operandCount code).getD 0

namespace RequestLength

theorem deviceReset : Statement .deviceReset := by
  intro q bytes h; cases h

theorem rawLevelChange (line : LineId) (level : Bool) : Statement (.rawLevelChange line level) := by
  intro q bytes h; cases h

theorem runExpiry (line : LineId) : Statement (.runExpiry line) := by
  intro q bytes h; cases h

theorem gapCountExpiry : Statement (.gapCountExpiry) := by
  intro q bytes h; cases h

theorem standstillExpiry : Statement (.standstillExpiry) := by
  intro q bytes h; cases h

theorem missDeadlineExpiry : Statement (.missDeadlineExpiry) := by
  intro q bytes h; cases h

theorem freeStep : Statement (.freeStep) := by
  intro q bytes h; cases h

theorem ticketDue : Statement (.ticketDue) := by
  intro q bytes h; cases h

theorem pulseEnd (track : TrackNo) : Statement (.pulseEnd track) := by
  intro q bytes h; cases h

theorem selectFall (p : Port) : Statement (.selectFall p) := by
  intro q bytes h; cases h

theorem selectRise (p : Port) : Statement (.selectRise p) := by
  intro q bytes h; cases h

theorem unknownCode (p : Port) (code : Byte) : Statement (.unknownCode p code) := by
  intro q bytes h
  simp only [encodeRequest] at h
  split at h
  · next hc => cases h; exact ⟨code, [], rfl, by rw [hc]; rfl⟩
  · cases h

theorem nop (p : Port) : Statement (.nop p) := by
  intro q bytes h; cases h; exact ⟨_, _, rfl, rfl⟩

theorem detach (p : Port) : Statement (.detach p) := by
  intro q bytes h; cases h; exact ⟨_, _, rfl, rfl⟩

theorem readStatus (p : Port) : Statement (.readStatus p) := by
  intro q bytes h; cases h; exact ⟨_, _, rfl, rfl⟩

theorem readInputs (p : Port) : Statement (.readInputs p) := by
  intro q bytes h; cases h; exact ⟨_, _, rfl, rfl⟩

theorem freerunOn (p : Port) : Statement (.freerunOn p) := by
  intro q bytes h; cases h; exact ⟨_, _, rfl, rfl⟩

theorem freerunOff (p : Port) : Statement (.freerunOff p) := by
  intro q bytes h; cases h; exact ⟨_, _, rfl, rfl⟩

theorem restartReference (p : Port) : Statement (.restartReference p) := by
  intro q bytes h; cases h; exact ⟨_, _, rfl, rfl⟩

theorem clearCounters (p : Port) : Statement (.clearCounters p) := by
  intro q bytes h; cases h; exact ⟨_, _, rfl, rfl⟩

theorem allocEntry (p : Port) : Statement (.allocEntry p) := by
  intro q bytes h; cases h; exact ⟨_, _, rfl, rfl⟩

theorem writeEntry (p : Port) (index : Byte) (image : RawImage) : Statement (.writeEntry p index image) := by
  intro q bytes h; cases h; exact ⟨_, _, rfl, rfl⟩

theorem readEntry (p : Port) (index : Byte) : Statement (.readEntry p index) := by
  intro q bytes h; cases h; exact ⟨_, _, rfl, rfl⟩

theorem armEntry (p : Port) (index : Byte) : Statement (.armEntry p index) := by
  intro q bytes h; cases h; exact ⟨_, _, rfl, rfl⟩

theorem holdEntry (p : Port) (index : Byte) : Statement (.holdEntry p index) := by
  intro q bytes h; cases h; exact ⟨_, _, rfl, rfl⟩

theorem freeEntry (p : Port) (index : Byte) : Statement (.freeEntry p index) := by
  intro q bytes h; cases h; exact ⟨_, _, rfl, rfl⟩

theorem modifyFlags (p : Port) (index : Byte) (setMask : Byte) (clearMask : Byte) : Statement (.modifyFlags p index setMask clearMask) := by
  intro q bytes h; cases h; exact ⟨_, _, rfl, rfl⟩

theorem assignTrack (p : Port) (track : Byte) : Statement (.assignTrack p track) := by
  intro q bytes h; cases h; exact ⟨_, _, rfl, rfl⟩

theorem releaseTrack (p : Port) (track : Byte) : Statement (.releaseTrack p track) := by
  intro q bytes h; cases h; exact ⟨_, _, rfl, rfl⟩

theorem setTrack (p : Port) (track : Byte) (polarity : Byte) (safe : Byte) (onLoss : Byte) : Statement (.setTrack p track polarity safe onLoss) := by
  intro q bytes h; cases h; exact ⟨_, _, rfl, rfl⟩

theorem driveTrack (p : Port) (track : Byte) (value : Byte) : Statement (.driveTrack p track value) := by
  intro q bytes h; cases h; exact ⟨_, _, rfl, rfl⟩

theorem readTrack (p : Port) (track : Byte) : Statement (.readTrack p track) := by
  intro q bytes h; cases h; exact ⟨_, _, rfl, rfl⟩

theorem popEvent (p : Port) : Statement (.popEvent p) := by
  intro q bytes h; cases h; exact ⟨_, _, rfl, rfl⟩

theorem readQueueInfo (p : Port) : Statement (.readQueueInfo p) := by
  intro q bytes h; cases h; exact ⟨_, _, rfl, rfl⟩

theorem readLatest (p : Port) (slot : Byte) : Statement (.readLatest p slot) := by
  intro q bytes h; cases h; exact ⟨_, _, rfl, rfl⟩

theorem writeSlot (p : Port) (slot : Byte) (image : RawSlot) : Statement (.writeSlot p slot image) := by
  intro q bytes h; cases h; exact ⟨_, _, rfl, rfl⟩

theorem readSlot (p : Port) (slot : Byte) : Statement (.readSlot p slot) := by
  intro q bytes h; cases h; exact ⟨_, _, rfl, rfl⟩

theorem setPortMask (p : Port) (mask : Byte) : Statement (.setPortMask p mask) := by
  intro q bytes h; cases h; exact ⟨_, _, rfl, rfl⟩

theorem setAttnMask (p : Port) (causes : BitVec 16) (watermark : Byte) : Statement (.setAttnMask p causes watermark) := by
  intro q bytes h; cases h; exact ⟨_, _, rfl, rfl⟩

theorem readAttn (p : Port) : Statement (.readAttn p) := by
  intro q bytes h; cases h; exact ⟨_, _, rfl, rfl⟩

theorem requestClaim (p : Port) : Statement (.requestClaim p) := by
  intro q bytes h; cases h; exact ⟨_, _, rfl, rfl⟩

theorem withdraw (p : Port) : Statement (.withdraw p) := by
  intro q bytes h; cases h; exact ⟨_, _, rfl, rfl⟩

theorem releaseClaim (p : Port) : Statement (.releaseClaim p) := by
  intro q bytes h; cases h; exact ⟨_, _, rfl, rfl⟩

theorem readClaim (p : Port) : Statement (.readClaim p) := by
  intro q bytes h; cases h; exact ⟨_, _, rfl, rfl⟩

theorem stageParam (p : Port) (id : Byte) (value : BitVec 24) : Statement (.stageParam p id value) := by
  intro q bytes h; cases h; exact ⟨_, _, rfl, rfl⟩

theorem readParam (p : Port) (id : Byte) (selector : Byte) : Statement (.readParam p id selector) := by
  intro q bytes h; cases h; exact ⟨_, _, rfl, rfl⟩

theorem commit (p : Port) : Statement (.commit p) := by
  intro q bytes h; cases h; exact ⟨_, _, rfl, rfl⟩

theorem discard (p : Port) : Statement (.discard p) := by
  intro q bytes h; cases h; exact ⟨_, _, rfl, rfl⟩

theorem setQuota (p : Port) (target : Byte) (quota : Byte) : Statement (.setQuota p target quota) := by
  intro q bytes h; cases h; exact ⟨_, _, rfl, rfl⟩

theorem serialClockEdge (p : Port) (rising : Bool) (sdi : Bool) : Statement (.serialClockEdge p rising sdi) := by
  intro q bytes h; cases h

end RequestLength

end Sys2Proof.Laws
end

