-- ==== Sys2Proof/Laws/Reference.lean ====
section
/-! SUPPORT. What the operations of the reference path can do, said once for any relation between the state before and
the state after that holds of their parts (`Closed`), and then for two such relations: what the reference path never
touches (`ReferenceFrame`), and that the claim's block stays where no commit waits. -/

namespace Sys2Proof.Machine

/-- A relation between the state before and after that every operation of the reference path keeps, once it holds of the
operations that FS frames, of changes to EQ, PT, AG and LS alone, of the LOCK cause and of the commit's application. -/
structure Closed (R : State → State → Prop) (ap : State → State) : Prop where
  trans : ∀ {s t u}, R s t → R t u → R s u
  firing : ∀ {s t}, FiringFrame s t → R s t
  parts : ∀ (s : State) (eq : EdgeQualifier) (pt : PeriodTracker) (ag : AngleGenerator) (ls : LockSupervisor) (n : Nat),
    R s { s with eq := eq, pt := pt, ag := ag, ls := ls, freeCount := n }
  lockCause : ∀ s, R s (setLockCause s)
  application : ∀ s, R s (ap s)

namespace Closed

variable {R : State → State → Prop} {ap : State → State}

theorem refl (c : Closed R ap) (s : State) : R s s := c.firing (.refl s)

/-! ### Period Tracker -/

theorem flushHistory (c : Closed R ap) (s : State) : R s (flushHistory s) := c.parts s _ _ _ _ _

theorem trimHistory (c : Closed R ap) (d : Nat) (s : State) : R s (trimHistory d s) := c.parts s _ _ _ _ _

theorem takeInterval (c : Closed R ap) (n : Nat) (s : State) : R s (takeInterval n s) := by
  unfold Machine.takeInterval
  split <;> exact c.parts s _ _ _ _ _

theorem closeInterval (c : Closed R ap) (n : Nat) (s : State) : R s (closeInterval n s) := by
  unfold Machine.closeInterval
  split
  · exact c.trans (c.parts s s.eq s.pt s.ag s.ls (s.freeCount + 1)) (c.takeInterval _ _)
  · exact c.takeInterval n s

theorem measureEdge (c : Closed R ap) (s : State) : R s (measureEdge s) := by
  unfold Machine.measureEdge
  split
  · exact c.refl s
  · split
    · exact c.flushHistory s
    · split
      · exact c.refl s
      · split
        · exact c.closeInterval _ s
        · exact c.refl s
        · exact c.refl s

theorem trackEdge (c : Closed R ap) (s : State) : R s (trackEdge s) :=
  c.trans (c.measureEdge s) (c.parts _ _ _ _ _ _)

/-! ### Transitions of the lock state -/

theorem moveLock (c : Closed R ap) (l : LockState) (s : State) : R s (moveLock l s) := by
  have h : R s { s with ls := { s.ls with lock := l } } := c.parts s _ _ _ _ _
  unfold Machine.moveLock
  simp only
  split
  · split
    · exact c.trans h (c.trimHistory _ _)
    · exact h
  · split
    · exact c.trans h (c.trans (c.trimHistory _ _) (c.lockCause _))
    · exact c.trans h (c.lockCause _)

theorem fall (c : Closed R ap) (l : LockState) (s : State) : R s (fall l s) :=
  c.trans (c.parts s _ _ _ _ _) (c.trans (c.parts _ _ _ _ _ _) (c.trans (c.parts _ _ _ _ _ _)
    (c.trans (c.parts _ _ _ _ _ _) (c.moveLock l _))))

theorem setStandstill (c : Closed R ap) (t : Timer) (s : State) : R s (setStandstill t s) := c.parts s _ _ _ _ _

theorem goOnToStopped (c : Closed R ap) (s : State) : R s (goOnToStopped s) := by
  unfold Machine.goOnToStopped
  split
  · exact c.fall _ s
  · exact c.refl s

theorem teardown (c : Closed R ap) (s : State) : R s (teardown ap s) :=
  c.trans (c.firing (teardownParts_frame s)) (c.application _)

theorem departFrom (c : Closed R ap) (before s : State) : R s (departFrom ap before s) := by
  unfold Machine.departFrom
  split
  · exact c.teardown s
  · exact c.refl s

theorem startStandstill (c : Closed R ap) (s : State) : R s (startStandstill s) := by
  unfold Machine.startStandstill
  split
  · exact c.setStandstill _ s
  · exact c.refl s

theorem enterSearch (c : Closed R ap) (s : State) : R s (enterSearch ap s) :=
  c.trans (c.fall _ s) (c.trans (c.startStandstill _) (c.trans (c.departFrom s _) (c.goOnToStopped _)))

theorem enterAcquire (c : Closed R ap) (s : State) : R s (enterAcquire ap s) := by
  unfold Machine.enterAcquire
  refine c.trans ?_ (c.goOnToStopped _)
  refine c.trans ?_ (c.departFrom s _)
  refine c.trans ?_ (c.moveLock _ _)
  exact c.parts s _ _ _ _ _

theorem enterLocked (c : Closed R ap) (n : Nat) (s : State) : R s (enterLocked n s) :=
  c.trans (c.parts s _ _ _ _ _) (c.moveLock _ _)

theorem enterHoldover (c : Closed R ap) (s : State) : R s (enterHoldover s) :=
  c.trans (c.parts s _ _ _ _ _) (c.trans (c.moveLock _ _) (c.firing (holdoverDiscard_frame _)))

theorem restart (c : Closed R ap) (s : State) : R s (restart ap s) := by
  unfold Machine.restart
  refine c.trans ?_ (c.departFrom s _)
  refine c.trans ?_ (c.parts _ _ _ _ _ _)
  exact c.trans (c.fall _ s) (c.setStandstill _ _)

theorem standstillExpires (c : Closed R ap) (s : State) : R s (standstillExpires ap s) := by
  have h : R s (Machine.setStandstill .expired s) := c.setStandstill _ s
  unfold Machine.standstillExpires
  simp only
  split
  · exact c.trans h (c.fall _ _)
  · exact c.trans h (c.fall _ _)
  · split
    · exact c.trans h (c.enterSearch _)
    · exact h
  · split
    · exact c.trans h (c.enterSearch _)
    · exact h
  · exact h
  · exact h

/-! ### Judging steps -/

theorem judgeStep (c : Closed R ap) (rep : StepReport) (s : State) : R s (judgeStep rep s) := by
  unfold Machine.judgeStep
  split
  · exact c.parts s _ _ _ _ _
  · exact c.refl s

theorem noteSynth (c : Closed R ap) (rep : StepReport) (s : State) : R s (noteSynth rep s) := by
  unfold Machine.noteSynth
  split
  · exact c.parts s _ _ _ _ _
  · exact c.refl s

theorem countHoldover (c : Closed R ap) (rep : StepReport) (s : State) : R s (countHoldover rep s) := by
  unfold Machine.countHoldover
  split
  · exact c.parts s _ _ _ _ _
  · exact c.refl s

theorem countSettle (c : Closed R ap) (s : State) : R s (countSettle s) := by
  unfold Machine.countSettle
  split
  · exact c.refl s
  · simp only
    split
    · exact c.trans (c.parts s s.eq s.pt s.ag _ s.freeCount) (c.lockCause _)
    · exact c.parts s _ _ _ _ _

theorem stepInAcquire (c : Closed R ap) (rep : StepReport) (s : State) : R s (stepInAcquire ap rep s) := by
  have h : R s (Machine.judgeStep rep (Machine.noteSynth rep s)) := c.trans (c.noteSynth rep s) (c.judgeStep rep _)
  unfold Machine.stepInAcquire
  simp only
  split
  · exact c.trans h (c.enterSearch _)
  · split
    · exact c.trans h (c.enterLocked _ _)
    · exact h

theorem stepInLocked (c : Closed R ap) (rep : StepReport) (s : State) : R s (stepInLocked ap rep s) := by
  have h : R s (Machine.judgeStep rep (Machine.noteSynth rep s)) := c.trans (c.noteSynth rep s) (c.judgeStep rep _)
  unfold Machine.stepInLocked
  simp only
  split
  · exact c.trans h (c.enterAcquire _)
  · split
    · exact c.trans h (c.enterHoldover _)
    · split
      · exact c.trans h (c.countSettle _)
      · exact h

theorem stepInHoldover (c : Closed R ap) (rep : StepReport) (s : State) : R s (stepInHoldover ap rep s) := by
  have h : R s (Machine.judgeStep rep (Machine.countHoldover rep (Machine.noteSynth rep s))) :=
    c.trans (c.noteSynth rep s) (c.trans (c.countHoldover rep _) (c.judgeStep rep _))
  unfold Machine.stepInHoldover
  simp only
  split
  · exact c.trans h (c.enterSearch _)
  · split
    · exact c.trans h (c.enterAcquire _)
    · split
      · exact c.trans h (c.enterLocked _ _)
      · exact h

theorem supervise (c : Closed R ap) (rep : StepReport) (s : State) : R s (supervise ap rep s) := by
  unfold Machine.supervise
  split
  · exact c.refl s
  · split
    · exact c.enterAcquire s
    · exact c.refl s
  · exact c.stepInAcquire rep s
  · exact c.stepInLocked rep s
  · exact c.stepInHoldover rep s
  · exact c.refl s

theorem handOverNoise (c : Closed R ap) (rep : StepReport) (s : State) : R s (handOverNoise rep s) := by
  unfold Machine.handOverNoise
  split
  · exact c.parts s _ _ _ _ _
  · exact c.refl s

/-! ### A step at the scheduler, and handed on -/

theorem stepActivation (c : Closed R ap) (rep : StepReport) (s : State) : R s (stepActivation ap rep s) := by
  unfold Machine.stepActivation
  split
  · exact c.trans (c.firing (activateArming_frame s)) (c.application _)
  · exact c.refl s

theorem schedulerStep (c : Closed R ap) (rep : StepReport) (s : State) : R s (schedulerStep ap rep s) :=
  c.trans (c.firing (stepFlush_frame _ _ s)) (c.trans (c.stepActivation rep _) (c.firing (stepEnumeration_frame rep _)))

theorem handStep (c : Closed R ap) (rep : StepReport) (s : State) : R s (handStep ap rep s) :=
  c.trans (c.handOverNoise rep s) (c.trans (c.supervise rep _) (c.schedulerStep rep _))

/-! ### Angle Generator -/

theorem beginTooth (c : Closed R ap) (k : Nat) (s : State) : R s (beginTooth k s) := c.parts s _ _ _ _ _

theorem setDeadline (c : Closed R ap) (kind : StepKind) (s : State) : R s (setDeadline kind s) := c.parts s _ _ _ _ _

theorem anchorReal (c : Closed R ap) (s : State) : R s (anchorReal s) :=
  c.trans (c.parts s s.eq s.pt _ s.ls s.freeCount) (c.setDeadline .real _)

theorem realStep (c : Closed R ap) (s : State) : R s (realStep ap s) := by
  unfold Machine.realStep
  refine c.trans ?_ (c.handStep _ _)
  refine c.trans ?_ (c.anchorReal _)
  exact c.parts s _ _ _ _ _

theorem alignStep (c : Closed R ap) (s : State) : R s (alignStep ap s) := by
  unfold Machine.alignStep
  refine c.trans ?_ (c.handStep _ _)
  refine c.trans ?_ (c.anchorReal _)
  exact c.parts s _ _ _ _ _

theorem lateAcceptance (c : Closed R ap) (s : State) : R s (lateAcceptance s) := by
  unfold Machine.lateAcceptance
  refine c.trans ?_ (c.anchorReal _)
  exact c.parts s _ _ _ _ _

theorem synthStep (c : Closed R ap) (s : State) : R s (synthStep ap s) := by
  unfold Machine.synthStep
  refine c.trans ?_ (c.handStep _ _)
  refine c.trans ?_ (c.setDeadline _ _)
  exact c.parts s _ _ _ _ _

theorem freeRunStep (c : Closed R ap) (s : State) : R s (freeRunStep ap s) := by
  unfold Machine.freeRunStep
  exact c.trans (c.beginTooth _ s) (c.handStep _ _)

theorem realEdgeNotice (c : Closed R ap) (s : State) : R s (realEdgeNotice s) := by
  unfold Machine.realEdgeNotice
  simp only
  split
  · exact c.trans (c.setStandstill _ s) (c.fall _ _)
  · exact c.setStandstill _ s

theorem generatorEdge (c : Closed R ap) (s : State) : R s (generatorEdge ap s) := by
  have h : R s { Machine.realEdgeNotice s with ag := { (Machine.realEdgeNotice s).ag with synthSinceReal := false } } :=
    c.trans (c.realEdgeNotice s) (c.parts _ _ _ _ _ _)
  unfold Machine.generatorEdge
  simp only
  split
  · exact h
  · split
    · exact c.trans h (c.alignStep _)
    · exact h
  · split
    · exact c.trans h (c.lateAcceptance _)
    · exact c.trans h (c.realStep _)
  · split
    · exact c.trans h (c.lateAcceptance _)
    · exact c.trans h (c.realStep _)
  · split
    · exact c.trans h (c.lateAcceptance _)
    · exact c.trans h (c.realStep _)
  · exact h

theorem arrive (c : Closed R ap) (s : State) : R s (indexArrival.arrive s) := by
  unfold indexArrival.arrive
  split <;> exact c.parts s _ _ _ _ _

theorem indexArrival (c : Closed R ap) (s : State) : R s (indexArrival s) := by
  unfold Machine.indexArrival
  split
  · exact c.refl s
  · exact c.refl s
  · exact c.arrive s
  · exact c.arrive s
  · exact c.arrive s
  · exact c.arrive s

/-! ### Edge Qualifier -/

theorem toothEdge (c : Closed R ap) (s : State) : R s (toothEdge ap s) := by
  unfold Machine.toothEdge
  split
  · exact c.parts s _ _ _ _ _
  · exact c.trans (c.trackEdge s) (c.trans (c.parts _ _ _ _ _ _) (c.generatorEdge _))

theorem setLine (c : Closed R ap) (line : LineId) (f : FilterLine → FilterLine) (s : State) : R s (setLine line f s) := by
  unfold Machine.setLine
  split <;> exact c.parts s _ _ _ _ _

theorem settleLine (c : Closed R ap) (line : LineId) (s : State) : R s (settleLine line s) := c.setLine line _ s

theorem gateChanged (c : Closed R ap) (n : GateNo) (s : State) : R s (gateChanged n s) := by
  have h : R s { s with eq := { s.eq with latches := vall s.eq.latches fun l => vmod l n fun _ => ⟨true, false⟩ } } :=
    c.parts s _ _ _ _ _
  unfold Machine.gateChanged
  simp only
  split
  · exact c.trans h (c.firing (post_frame _ _))
  · exact h

theorem reevaluateGate (c : Closed R ap) (n : GateNo) (s : State) : R s (reevaluateGate n s) := by
  unfold Machine.reevaluateGate
  split
  · exact c.refl s
  · exact c.trans (c.parts s _ s.pt s.ag s.ls s.freeCount) (c.gateChanged n _)

theorem edgeArrives (c : Closed R ap) (line : LineId) (s : State) : R s (edgeArrives ap line s) := by
  unfold Machine.edgeArrives
  split
  · split
    · exact c.toothEdge s
    · exact c.refl s
  · split
    · exact c.indexArrival s
    · exact c.refl s
  · exact c.refl s

theorem filteredTransition (c : Closed R ap) (line : LineId) (s : State) : R s (filteredTransition ap line s) := by
  unfold Machine.filteredTransition
  split
  · exact c.trans (c.settleLine _ s) (c.reevaluateGate _ _)
  · exact c.trans (c.settleLine _ s) (c.edgeArrives _ _)
  · exact c.trans (c.settleLine _ s) (c.edgeArrives _ _)

/-! ### What an application does to the blocks (R179 parts 2 to 4) -/

theorem foldl {α : Type} (c : Closed R ap) (f : State → α → State) (h : ∀ s a, R s (f s a)) (l : List α) (s : State) :
    R s (l.foldl f s) := by
  induction l generalizing s with
  | nil => exact c.refl s
  | cons a rest ih => exact c.trans (h s a) (ih _)

theorem classALock (c : Closed R id) (s : State) : R s (classALock s) := by
  have hfall : ∀ u, R u (Machine.setStandstill (.running 0) (Machine.fall .search u)) :=
    fun u => c.trans (c.fall _ u) (c.setStandstill _ _)
  unfold Machine.classALock
  split
  · exact c.parts s _ _ _ _ _
  · exact hfall s
  · exact c.trans (hfall s) (c.departFrom s _)
  · exact c.trans (hfall s) (c.departFrom s _)
  · exact c.trans (hfall s) (c.departFrom s _)
  · exact c.parts s _ _ _ _ _

theorem classAEffects (c : Closed R id) (s : State) : R s (classAEffects s) := by
  unfold Machine.classAEffects
  refine c.trans ?_ (c.classALock _)
  exact c.parts s _ _ _ _ _

theorem reevaluateDepth (c : Closed R ap) (old : RefConfig) (s : State) : R s (reevaluateDepth old s) := by
  unfold Machine.reevaluateDepth
  split
  · exact c.trimHistory _ s
  · exact c.refl s

theorem judgeStandstillLimit (c : Closed R id) (s : State) : R s (judgeStandstillLimit s) := by
  have h : R s { s with pt := { s.pt with gap := s.pt.gap.judge s.cc.active.standstillLimit } } := c.parts s _ _ _ _ _
  unfold Machine.judgeStandstillLimit
  simp only
  split
  · exact c.trans h (c.standstillExpires _)
  · exact h

theorem expireAtApplication (c : Closed R id) (s : State) (line : LineId) : R s (expireAtApplication s line) := by
  unfold Machine.expireAtApplication
  split
  · exact c.trans (c.settleLine line s) (c.edgeArrives line _)
  · exact c.refl s

theorem requalify (c : Closed R id) (old : RefConfig) (s : State) : R s (requalify old s) := by
  unfold Machine.requalify
  refine c.trans ?_ (c.foldl _ (fun u n => c.reevaluateGate n u) _ _)
  refine c.trans ?_ (c.parts _ _ _ _ _ _)
  refine c.trans ?_ (c.foldl _ c.expireAtApplication _ _)
  exact c.parts s _ _ _ _ _

theorem carryOutChange (c : Closed R id) (old new : RefConfig) (s : State) : R s (carryOutChange old new s) := by
  unfold Machine.carryOutChange
  refine c.trans ?_ (c.requalify old _)
  have h1 : R s (if classAChanged old new then Machine.classAEffects s else s) := by
    split
    · exact c.classAEffects s
    · exact c.refl s
  generalize (if classAChanged old new then Machine.classAEffects s else s) = t at h1 ⊢
  have h2 : R t (if old.acquireDepth ≠ new.acquireDepth ∨ old.lockedDepth ≠ new.lockedDepth then
      Machine.reevaluateDepth old t else t) := by
    split
    · exact c.reevaluateDepth old t
    · exact c.refl t
  refine c.trans h1 (c.trans h2 ?_)
  generalize (if old.acquireDepth ≠ new.acquireDepth ∨ old.lockedDepth ≠ new.lockedDepth then
      Machine.reevaluateDepth old t else t) = u
  split
  · exact c.judgeStandstillLimit u
  · exact c.refl u

/-! ### FREERUN_ON and the raw levels -/

theorem startFreeRun (c : Closed R applyPending) (s : State) : R s (startFreeRun s) := by
  unfold Machine.startFreeRun
  simp only
  split
  · refine c.trans ?_ (c.firing (freerunRetime_frame _))
    refine c.trans ?_ (c.parts _ _ _ _ _ _)
    exact c.trans (c.parts s _ _ _ _ _) (c.moveLock _ _)
  · refine c.trans ?_ (c.handStep _ _)
    refine c.trans ?_ (c.beginTooth _ _)
    refine c.trans ?_ (c.parts _ _ _ _ _ _)
    exact c.trans (c.parts s _ _ _ _ _) (c.moveLock _ _)

theorem rawChange (c : Closed R applyPending) (line : LineId) (level : Bool) (s : State) : R s (rawChange line level s) := by
  unfold Machine.rawChange
  split
  · exact c.refl s
  · split
    · split
      · exact c.setLine _ _ s
      · exact c.trans (c.setLine _ _ s) (c.filteredTransition _ _)
    · exact c.setLine _ _ s

end Closed

/-! ### What the reference path never touches -/

/-- What no edge, step, transition and applied commit touches: time, the ports, the queue, the claim's holder and list,
ownership and quotas, the settings of entries, tracks and subscriptions, and the POP mark. -/
structure ReferenceFrame (s t : State) : Prop where
  resetLow : t.resetLow = s.resetLow
  stamp : t.stamp = s.stamp
  pi : t.pi = s.pi
  pending : t.pending = s.pending
  holder : t.cc.holder = s.cc.holder
  waiting : t.cc.waiting = s.cc.waiting
  owned : t.ctc.owned = s.ctc.owned
  quota : t.ctc.quota = s.ctc.quota
  entries : ∀ i : EntryNo, t.ctc.entries[i].owner = s.ctc.entries[i].owner
    ∧ { t.ctc.entries[i].image with count := 0 } = { s.ctc.entries[i].image with count := 0 }
  tracks : ∀ k : TrackNo, t.td[k].owner = s.td[k].owner ∧ t.td[k].inverted = s.td[k].inverted
    ∧ t.td[k].safeActive = s.td[k].safeActive ∧ t.td[k].keepOnLoss = s.td[k].keepOnLoss
  ports : ∀ p : Port, t.er[p].portMask = s.er[p].portMask ∧ t.er[p].slots = s.er[p].slots
    ∧ t.er[p].watermark = s.er[p].watermark ∧ t.er[p].attnMask = s.er[p].attnMask
    ∧ t.er[p].popMark = s.er[p].popMark

theorem ReferenceFrame.refl (s : State) : ReferenceFrame s s := by constructor <;> simp

theorem ReferenceFrame.trans {s t u : State} (a : ReferenceFrame s t) (b : ReferenceFrame t u) : ReferenceFrame s u where
  resetLow := b.resetLow.trans a.resetLow
  stamp := b.stamp.trans a.stamp
  pi := b.pi.trans a.pi
  pending := b.pending.trans a.pending
  holder := b.holder.trans a.holder
  waiting := b.waiting.trans a.waiting
  owned := b.owned.trans a.owned
  quota := b.quota.trans a.quota
  entries := fun i => ⟨(b.entries i).1.trans (a.entries i).1, (b.entries i).2.trans (a.entries i).2⟩
  tracks := fun k => by
    obtain ⟨h1, h2, h3, h4⟩ := a.tracks k
    obtain ⟨g1, g2, g3, g4⟩ := b.tracks k
    exact ⟨g1.trans h1, g2.trans h2, g3.trans h3, g4.trans h4⟩
  ports := fun p => by
    obtain ⟨h1, h2, h3, h4, h5⟩ := a.ports p
    obtain ⟨g1, g2, g3, g4, g5⟩ := b.ports p
    exact ⟨g1.trans h1, g2.trans h2, g3.trans h3, g4.trans h4, g5.trans h5⟩

theorem FiringFrame.reference {s t : State} (h : FiringFrame s t) : ReferenceFrame s t where
  resetLow := h.resetLow
  stamp := h.stamp
  pi := h.pi
  pending := h.pending
  holder := by rw [h.cc]
  waiting := by rw [h.cc]
  owned := h.owned
  quota := h.quota
  entries := h.entries
  tracks := h.tracks
  ports := fun p => by
    obtain ⟨h1, h2, h3, h4, _, _, h7⟩ := h.ports p
    exact ⟨h1, h2, h3, h4, h7⟩

theorem setLockCause_reference (s : State) : ReferenceFrame s (setLockCause s) := by
  constructor <;> simp

theorem referenceFrame_of_parts (s : State) (eq : EdgeQualifier) (pt : PeriodTracker) (ag : AngleGenerator)
    (ls : LockSupervisor) (n : Nat) :
    ReferenceFrame s { s with eq := eq, pt := pt, ag := ag, ls := ls, freeCount := n } := by
  constructor <;> simp

theorem closed_reference_id : Closed ReferenceFrame id :=
  ⟨.trans, FiringFrame.reference, referenceFrame_of_parts, setLockCause_reference, .refl⟩

theorem tellHolder_reference (s : State) : ReferenceFrame s (tellHolder s) := by
  unfold tellHolder
  split
  · exact .refl s
  · constructor
    case ports =>
      intro p
      simp only [setClaimCause_er, vmod_at]
      split <;> simp
    all_goals simp

theorem applyRecord_reference (new : RefConfig) (s : State) : ReferenceFrame s (applyRecord new s) := by
  have h : ReferenceFrame s { s with cc := { s.cc with active := new, pendingRecord := none } } := by
    constructor <;> simp
  unfold applyRecord
  simp only
  refine ReferenceFrame.trans ?_ (tellHolder_reference _)
  split
  · exact h
  · exact h.trans (closed_reference_id.carryOutChange _ _ _)

theorem applyPending_reference (s : State) : ReferenceFrame s (applyPending s) := by
  unfold applyPending
  split
  · exact .refl s
  · exact applyRecord_reference _ s

/-- Every operation of the reference path keeps the reference frame. -/
theorem closed_reference : Closed ReferenceFrame applyPending :=
  { closed_reference_id with application := applyPending_reference }

/-! ### Where no commit waits -/

/-- With no pending record there is nothing to apply (R180). -/
theorem applyPending_none (s : State) (h : s.cc.pendingRecord = none) : applyPending s = s := by
  unfold applyPending
  rw [h]

/-- Every operation of the reference path leaves the claim's block where no commit waits. -/
theorem closed_commitFree : Closed (fun s t => s.cc.pendingRecord = none → t.cc = s.cc) applyPending where
  trans := fun a b h => by
    have ht := a h
    rw [b (by rw [ht]; exact h), ht]
  firing := fun f _ => f.cc
  parts := fun _ _ _ _ _ _ _ => rfl
  lockCause := fun _ _ => rfl
  application := fun s h => by rw [applyPending_none s h]

/-- An application of a record leaves everything in the claim's block but the records, and no commit waits then. -/
theorem applyRecord_pending (new : RefConfig) (s : State) :
    (applyRecord new s).cc.pendingRecord = none ∧ (applyRecord new s).cc.active = new := by
  have c : Closed (fun s t => t.cc = s.cc) id :=
    { trans := fun a b => b.trans a, firing := fun f => f.cc, parts := fun _ _ _ _ _ _ => rfl, lockCause := fun _ => rfl,
      application := fun _ => rfl }
  have tell : ∀ u, (tellHolder u).cc.pendingRecord = u.cc.pendingRecord ∧ (tellHolder u).cc.active = u.cc.active := by
    intro u
    unfold tellHolder
    split <;> simp
  unfold applyRecord
  simp only [(tell _).1, (tell _).2]
  split
  · simp
  · rw [c.carryOutChange]
    simp

end Sys2Proof.Machine
end

