-- ==== Sys2Proof/Laws/Requests.lean ====
section
/-! SUPPORT. Requests, said once: taking a request where its port can complete it and where it cannot, the numbers and
yes/no bytes an operand stands for, and the small bytes of responses. -/

namespace Sys2Proof.Machine

open Sys2Proof.Safety

/-! ### Taking a request (R186, R187) -/

theorem bitsOfBytes_length (bytes : List Byte) : (bitsOfBytes bytes).length = 8 * bytes.length := by
  induction bytes with
  | nil => rfl
  | cons b rest ih =>
      have h : bitsOfBytes (b :: rest) = bitsOfByte b ++ bitsOfBytes rest := rfl
      rw [h, List.length_append, ih, List.length_cons]
      have : (bitsOfByte b).length = 8 := rfl
      omega

theorem canTake_iff (p : Port) (bytes : List Byte) (s : State) :
    canTake p (bitsOfBytes bytes) s = true ↔ Receives p bytes s := by
  simp only [canTake, Receives, bitsOfBytes_length, Bool.and_eq_true, Bool.not_eq_true', beq_iff_eq,
    List.isPrefixOf_iff_prefix, decide_eq_true_eq, and_assoc]

/-- Where port p can complete the request, the block acts on s and the port holds the reply. -/
theorem takeRequest_receives {p q : Port} {i : Instr} {bytes : List Byte} (act : State → State × Reply) {s : State}
    (he : encodeRequest i = some (q, bytes)) (h : Receives p bytes s) :
    takeRequest p i act s = answered p bytes (act s).2.wire (act s).1 := by
  unfold takeRequest
  simp only [he, if_pos ((canTake_iff p bytes s).2 h)]
  rfl

/-- Where port p cannot complete the request, nothing changes. -/
theorem takeRequest_not_receives {p q : Port} {i : Instr} {bytes : List Byte} (act : State → State × Reply) {s : State}
    (he : encodeRequest i = some (q, bytes)) (h : ¬Receives p bytes s) : takeRequest p i act s = s := by
  unfold takeRequest
  simp only [he, if_neg fun g => h ((canTake_iff p bytes s).1 g)]

/-- A request command answers what its block answers. The second hypothesis is `rfl` for every request. -/
theorem answers_of {i : Instr} {p : Port} {request response : List Byte} {s t : State} {act : State → State × Reply}
    (he : encodeRequest i = some (p, request)) (hx : exec i s = .next (takeRequest p i act s))
    (ht : (act s).1 = t) (hw : (act s).2.wire = response) : Answers i p request response s t := by
  intro h
  rw [hx, takeRequest_receives act he h, ht, hw]

/-! ### Operands -/

theorem octet_toNat (n : Nat) (h : n < 256) : (octet n).toNat = n := by
  simp only [octet, BitVec.toNat_ofNat]
  omega

theorem entryOf_octet (i : EntryNo) : entryOf (octet i.val) = some i := by
  have h : (octet i.val).toNat = i.val := octet_toNat _ (by omega)
  simp only [entryOf, h, i.isLt, dite_true]

theorem entryOf_range {b : Byte} (h : 64 ≤ b.toNat) : entryOf b = none := dif_neg (Nat.not_lt.2 h)

theorem trackOf_octet (k : TrackNo) : trackOf (octet k.val) = some k := by
  have h : (octet k.val).toNat = k.val := octet_toNat _ (by omega)
  simp only [trackOf, h, k.isLt, dite_true]

theorem trackOf_range {b : Byte} (h : 8 ≤ b.toNat) : trackOf b = none := dif_neg (Nat.not_lt.2 h)

theorem slotOf_octet (n : SlotNo) : slotOf (octet n.val) = some n := by
  have h : (octet n.val).toNat = n.val := octet_toNat _ (by omega)
  simp only [slotOf, h, n.isLt, dite_true]

theorem slotOf_range {b : Byte} (h : 4 ≤ b.toNat) : slotOf b = none := dif_neg (Nat.not_lt.2 h)

theorem portOf_octet (p : Port) : portOf (octet p.val) = some p := by
  have h : (octet p.val).toNat = p.val := octet_toNat _ (by omega)
  simp only [portOf, h, p.isLt, dite_true]

theorem portOf_range {b : Byte} (h : 4 ≤ b.toNat) : portOf b = none := dif_neg (Nat.not_lt.2 h)

theorem yesNo_bit {b : Byte} (h : b.toNat < 2) : yesNo b = some (b == 1) := by
  have hb : b = 0 ∨ b = 1 := by
    rcases Nat.lt_or_ge b.toNat 1 with g | g
    · left
      exact BitVec.eq_of_toNat_eq (by simp; omega)
    · right
      exact BitVec.eq_of_toNat_eq (by simp; omega)
  rcases hb with rfl | rfl <;> rfl

theorem yesNo_range {b : Byte} (h : 2 ≤ b.toNat) : yesNo b = none := by
  have h0 : b ≠ 0 := by
    rintro rfl
    simp at h
  have h1 : b ≠ 1 := by
    rintro rfl
    simp at h
  simp only [yesNo, if_neg h0, if_neg h1]

theorem causeSetOf_some {w : BitVec 16} (h : w.toNat < 512) : causeSetOf w = some (w.setWidth 9) := if_pos h

theorem causeSetOf_range {w : BitVec 16} (h : 512 ≤ w.toNat) : causeSetOf w = none := if_neg (Nat.not_lt.2 h)

theorem watermarkOf_some {b : Byte} (h0 : b ≠ 0) (h : b.toNat ≤ 16) : watermarkOf b = some b.toNat := by
  have : 1 ≤ b.toNat := by
    rcases Nat.eq_zero_or_pos b.toNat with g | g
    · exact absurd (BitVec.eq_of_toNat_eq (by simpa using g)) h0
    · exact g
  simp only [watermarkOf, this, h, and_self, if_true]

theorem watermarkOf_range {b : Byte} (h : b = 0 ∨ 16 < b.toNat) : watermarkOf b = none := by
  have : ¬(1 ≤ b.toNat ∧ b.toNat ≤ 16) := by
    rcases h with rfl | h
    · simp
    · omega
  exact if_neg this

/-! ### Checks that every request of a kind shares (R86, R133, R173) -/

theorem onOwnEntry_own {p : Port} {i : EntryNo} {s : State} (f : EntryNo → State × Reply)
    (h : s.ctc.entries[i].owner = some p) : onOwnEntry p (octet i.val) s f = f i := by
  unfold onOwnEntry
  simp only [entryOf_octet]
  rw [if_pos h]

theorem onOwnEntry_other {p : Port} {i : EntryNo} {s : State} (f : EntryNo → State × Reply)
    (h : s.ctc.entries[i].owner ≠ some p) : onOwnEntry p (octet i.val) s f = (s, Reply.bare .denied) := by
  unfold onOwnEntry
  simp only [entryOf_octet]
  rw [if_neg h]

theorem onOwnEntry_range {p : Port} {b : Byte} {s : State} (f : EntryNo → State × Reply) (h : 64 ≤ b.toNat) :
    onOwnEntry p b s f = (s, Reply.bare .range) := by
  unfold onOwnEntry
  rw [entryOf_range h]

theorem onTrackNo_octet (k : TrackNo) (s : State) (f : TrackNo → State × Reply) :
    onTrackNo (octet k.val) s f = f k := by
  unfold onTrackNo
  rw [trackOf_octet]

theorem onTrackNo_range {b : Byte} (s : State) (f : TrackNo → State × Reply) (h : 8 ≤ b.toNat) :
    onTrackNo b s f = (s, Reply.bare .range) := by
  unfold onTrackNo
  rw [trackOf_range h]

theorem onOwnTrack_own {p : Port} {k : TrackNo} {s : State} (f : TrackNo → State × Reply) (h : s.td[k].owner = some p) :
    onOwnTrack p (octet k.val) s f = f k := by
  unfold onOwnTrack
  rw [onTrackNo_octet, if_pos h]

theorem onOwnTrack_other {p : Port} {k : TrackNo} {s : State} (f : TrackNo → State × Reply) (h : s.td[k].owner ≠ some p) :
    onOwnTrack p (octet k.val) s f = (s, Reply.bare .denied) := by
  unfold onOwnTrack
  rw [onTrackNo_octet, if_neg h]

theorem onOwnTrack_range {p : Port} {b : Byte} (s : State) (f : TrackNo → State × Reply) (h : 8 ≤ b.toNat) :
    onOwnTrack p b s f = (s, Reply.bare .range) := onTrackNo_range s _ h

theorem holderOnly_holder {p : Port} {s : State} (r : State × Reply) (h : s.cc.holder = some p) : holderOnly p s r = r :=
  if_pos h

theorem holderOnly_other {p : Port} {s : State} (r : State × Reply) (h : s.cc.holder ≠ some p) :
    holderOnly p s r = (s, Reply.bare .denied) := if_neg h

/-! ### What an edit of the configuration leaves (R174, R175) -/

/-- Taking an entry out of service (R93 steps 1 and 2) keeps the firing frame and adds nothing to the lists. -/
theorem withdrawEntry_frame (i : EntryNo) (s : State) : FiringFrame s (withdrawEntry i s) :=
  (removePoints_frame i s).trans (forceClose_frame false i _)

theorem withdrawEntry_shrinks (i : EntryNo) (s : State) : ListsShrink s (withdrawEntry i s) :=
  (removePoints_shrinks i s).trans (forceClose_shrinks false i _)

end Sys2Proof.Machine
end

