-- ==== Sys2Proof/Laws/Reset.lean ====
section
/-! SUPPORT. Device reset, said once: what every block holds while RESET_n is low and when it rises again, that the hub held
in reset is held again as it is, and that nothing is due in it. -/

namespace Sys2Proof.Machine

@[simp] theorem holdInReset_resetLow (s : State) : (holdInReset s).resetLow = true := rfl
@[simp] theorem holdInReset_stamp (s : State) : (holdInReset s).stamp = 0 := rfl
@[simp] theorem holdInReset_eq (s : State) :
    (holdInReset s).eq = EdgeQualifier.reset s.eq.tooth.raw s.eq.index.raw (vall s.eq.gates FilterLine.raw) := rfl
@[simp] theorem holdInReset_pt (s : State) : (holdInReset s).pt = PeriodTracker.reset := rfl
@[simp] theorem holdInReset_ag (s : State) : (holdInReset s).ag = AngleGenerator.reset := rfl
@[simp] theorem holdInReset_ls (s : State) : (holdInReset s).ls = LockSupervisor.reset := rfl
@[simp] theorem holdInReset_ctc (s : State) : (holdInReset s).ctc = CamTable.reset := rfl
@[simp] theorem holdInReset_fs (s : State) : (holdInReset s).fs = FiringScheduler.reset := rfl
@[simp] theorem holdInReset_td (s : State) : (holdInReset s).td = Vector.replicate 8 Track.default := rfl
@[simp] theorem holdInReset_er (s : State) : (holdInReset s).er = Vector.replicate 4 EventPort.default := rfl
@[simp] theorem holdInReset_cc (s : State) : (holdInReset s).cc = ClaimController.reset := rfl
@[simp] theorem holdInReset_pi (s : State) :
    (holdInReset s).pi = vall s.pi fun q => { PortInterface.reset q.selected q.sck with sdo := none } := rfl
@[simp] theorem holdInReset_pending (s : State) : (holdInReset s).pending = s.pending := rfl
@[simp] theorem holdInReset_freeCount (s : State) : (holdInReset s).freeCount = s.freeCount := rfl

/-- The rise of RESET_n leaves what the reset held, but for the ports that discard. -/
theorem endReset_eq (s : State) :
    endReset s =
      { holdInReset s with resetLow := false, pi := vall s.pi fun q => PortInterface.reset q.selected q.sck } := rfl

theorem selected_reset (low sck : Bool) : (PortInterface.reset low sck).selected = low := by cases low <;> rfl

/-- The hub held in reset is held as it is. -/
theorem holdInReset_holdInReset (s : State) : holdInReset (holdInReset s) = holdInReset s := by
  simp only [holdInReset, State.mk.injEq, true_and, and_true]
  refine ⟨?_, ?_⟩
  · simp [EdgeQualifier.reset, vall]
  · apply Vector.ext
    intro i hi
    simp only [vall, Vector.getElem_ofFn]
    cases h : (s.pi[i]).selected <;> simpa [PortInterface.reset, PortInterface.selected] using h

/-- While RESET_n is low, a state that keeps its law is the hub held in reset. -/
theorem heldInReset_iff (s : State) : Safety.HeldInReset s ↔ (s.resetLow = true → holdInReset s = s) :=
  ⟨fun h hl => (h hl).symm, fun h hl => (h hl).symm⟩

/-- No timed event is due while the hub is held in reset. -/
theorem dueEvents_holdInReset (s : State) : dueEvents (holdInReset s) = [] := by
  have hl : (allLines.filter fun l => runDue l (holdInReset s)) = [] := by
    simp [allLines, runDue, holdInReset, EdgeQualifier.reset, EdgeQualifier.line, vall]
  simp [dueEvents, hl, gapDue, standstillDue, missDue, freeStepDue, ticketIsDue, PeriodTracker.reset, LockSupervisor.reset,
    AngleGenerator.reset, FiringScheduler.reset, Track.default, Timer.due]

/-- The step that finds no command waiting ends device reset. -/
theorem step_holdInReset (s : State) (h : s.pending = []) : step (holdInReset s) = .next (endReset (holdInReset s)) := by
  unfold step ownStep
  rw [holdInReset_pending, h, dueEvents_holdInReset]
  rfl

end Sys2Proof.Machine
end

