-- ==== Sys2Proof/Tests/Slice0.lean ====
section
/-! SUPPORT. Tests: the smoke test of WellFormed, steps from the spec's worked sequences, and for every statement with
hypotheses a state and operands that meet them together, clause by clause. -/

namespace Sys2Proof.Tests

set_option Elab.async false

open Sys2Proof.Machine Sys2Proof.Safety

/-! ### Small states -/

/-- The state after a command, s itself where the command has no next state. -/
def after (i : Instr) (s : State) : State :=
  match exec i s with
  | .next t => t
  | .fault _ => s
  | .refused _ => s

/-- Port p in a fresh frame: RECEIVING with no bits yet. -/
def inFrame (p : Port) (s : State) : State :=
  s.modPort p fun q => { q with framing := .receiving, bits := [], sdo := some true }

/-- The response port p holds after a request. -/
def reply (p : Port) (i : Instr) (s : State) : List Byte := (after i (inFrame p s)).pi[p].response

/-- Reset, with port 0 in a fresh frame. -/
def port0 : State := inFrame 0 State.reset

/-- Port p in one framing state with its clock at a level. -/
def framed (p : Port) (f : Framing) (sck : Bool) (s : State) : State :=
  s.modPort p fun q => { q with framing := f, sck := sck, sdo := some true }

/-- The reference in a lock state at tooth k with four intervals of 20,000 pu and no commit pending. -/
def running (l : LockState) (k : Nat) (s : State) : State :=
  { s with
    ls := { s.ls with lock := l, standstill := .running 0 }
    pt := { s.pt with history := [20000, 20000, 20000, 20000], lastEdge := some s.stamp, gap := .running 0 }
    ag := { s.ag with
      valid := true
      tooth := k
      base := 60 * k
      toothStart := s.stamp
      timer := 0
      deadline := some 30000
      freeRunning := l == .freerun } }

/-- Time t pu after the start of the tooth. -/
def later (t : Nat) (s : State) : State :=
  { s with
    stamp := s.stamp + BitVec.ofNat 24 t
    pt := { s.pt with gap := .running t }
    ag := { s.ag with timer := t } }

/-- A TOOTH run to a level that has lasted the 8 pu of width code 2. -/
def toothRun (level : Bool) (s : State) : State :=
  { s with eq := { s.eq with tooth := ⟨level, !level, some (s.stamp - 8)⟩ } }

/-- An INDEX run that has lasted its width. -/
def indexRun (level : Bool) (s : State) : State :=
  { s with eq := { s.eq with index := ⟨level, !level, some (s.stamp - 8)⟩ } }

/-- A run of G0 to a level that has lasted its width. -/
def gateRun (level : Bool) (s : State) : State :=
  { s with eq := { s.eq with gates := s.eq.gates.set 0 ⟨level, !level, some (s.stamp - 8)⟩ } }

/-- Entry i set, with its owner's count and its track's owner in agreement. -/
def withEntry (i : EntryNo) (e : Entry) (s : State) : State :=
  { s.modEntry i fun _ => e with ctc := { (s.modEntry i fun _ => e).ctc with owned := s.ctc.owned.set 0 1 } }

/-- A NOTE of port 0 at 720 au. -/
def note : Entry := ⟨.live, some 0, ⟨.note, 720, none, none, none, 0x35, .always, ⟨false, false, false⟩, 0⟩, false, false, none⟩

/-- A WINDOW of port 0 on track 0 from 735 to 765 au. -/
def window : Entry :=
  ⟨.live, some 0, ⟨.window, 735, some 765, some 0, none, 0x35, .always, ⟨false, false, false⟩, 3⟩, false, false, none⟩

/-- The same entry in one state. -/
def inState (e : Entry) (st : EntryState) : Entry := { e with state := st }

/-- Track k owned by port 0. -/
def withTrack (k : TrackNo) (s : State) : State := s.modTrack k fun t => { t with owner := some 0 }

/-- A ticket of entry 5 due at this moment, at the head of the list. -/
def due (point : Point) (s : State) : State :=
  { s with fs := { s.fs with tickets := [⟨5, point, s.stamp, 300⟩] } }

/-- Port 0 holds the claim with a staged copy. -/
def holding (s : State) : State := { s with cc := { s.cc with holder := some 0, staged := some s.cc.active } }

/-- A pending record. -/
def committing (s : State) : State := { s with cc := { s.cc with pendingRecord := some s.cc.active } }

/-- An INPUT record. -/
def inputRecord : Event := ⟨.input, false, false, true, 0xF0, 0, none, none, none, 7⟩

/-- The fire event of the delivery example (08). -/
def fireRecord : Event := ⟨.fire, false, false, false, 0x35, 12, some 1, some 2210, some 1450, 5300000⟩

/-! ### Well-formedness -/

theorem test_unknown_code_of_a_listed_request_is_ill_formed : WellFormed (.unknownCode 0 0x20) = false := by decide

theorem test_unknown_code_of_no_request_is_well_formed : WellFormed (.unknownCode 0 0x01) = true := by decide

/-! ### The spec's worked sequences -/

theorem test_noise_edge_at_104999 :
    (after (.runExpiry .tooth) (toothRun true { running .locked 17 State.reset with
      stamp := 104999, eq := { State.reset.eq with window := some ⟨100000, 5000⟩, cycleNoise := 1, totalNoise := 18 } })).eq
      = { State.reset.eq with
          tooth := ⟨true, true, none⟩, window := some ⟨100000, 5000⟩, cycleNoise := 2, totalNoise := 19 } := by
  decide +kernel

/-- The last row of the noisy tooth: the interval 20,050 and the window of 5,003 pu. -/
theorem test_noisy_tooth_window_after_120050 :
    (openBlanking (trackEdge { running .locked 17 State.reset with
        stamp := 120050
        pt := { State.reset.pt with
          history := [20000, 20000, 20000, 20000], lastEdge := some 100000, gap := .running 20050 } })).eq.window
      = some ⟨120050, 5003⟩ := by
  decide +kernel

theorem test_accelerating_shaft_estimates :
    let s0 := running .locked 17 State.reset
    let s1 := takeInterval 19400 s0
    let s2 := takeInterval 18900 s1
    let s3 := takeInterval 16800 s2
    let s4 := takeInterval 16500 s3
    [s1, s2, s3, s4].map State.estimate = [some 19850, some 19575, some 16800, some 16650]
      ∧ s4.pt.speedSteps = 1 ∧ (moveLock .acquire s4).pt.history = [16500] := by
  decide +kernel

theorem test_late_tooth_angles :
    (later 29000 (running .locked 17 State.reset)).angle = some 1079
      ∧ (later 3000 (running .locked 18 State.reset)).angle = some 1089
      ∧ (later 6000 (running .locked 18 State.reset)).angle = some 1098 := by
  decide +kernel

theorem test_late_index_pulse_is_a_mismatch :
    indexCheck { running .locked 0 State.reset with ag := { (running .locked 0 State.reset).ag with indexPending := true } }
      = (0, .mismatch) := by
  decide +kernel

theorem test_index_pulse_in_tooth_59_is_a_match :
    indexCheck { running .locked 59 State.reset with ag := { (running .locked 59 State.reset).ag with indexPending := true } }
        = (0, .matched)
      ∧ indexCheck (running .locked 59 State.reset) = (0, .miss) := by
  decide +kernel

theorem test_tooth_angles_of_seven_teeth :
    (List.range 8).map (toothAngle 7) = [0, 514, 1028, 1542, 2057, 2571, 3085, 3600] := by
  decide

/-- The third synthesized tooth in a row takes LOCKED to HOLDOVER (04, the sensor that drops out). -/
theorem test_dropout_enters_holdover :
    let s := later 30000 { running .locked 32 State.reset with ag := { (running .locked 32 State.reset).ag with missCount := 2 } }
    ((after .missDeadlineExpiry s).ls.lock, (after .missDeadlineExpiry s).ag.missCount,
      (after .missDeadlineExpiry s).ls.holdover, (after .missDeadlineExpiry s).ag.lateWindow) = (.holdover, 3, 0, some 10000) := by
  decide +kernel

/-- A counted window: its last END closes it and spends the entry (05). -/
theorem test_spent_window_becomes_held :
    let s := due .stop (withTrack 0 (withEntry 5 { window with windowOpen := true, spent := true } (running .locked 5 State.reset)))
    ((after .ticketDue s).ctc.entries[5].state, (after .ticketDue s).ctc.entries[5].windowOpen,
      (after .ticketDue s).ctc.entries[5].spent) = (.held, false, true) := by
  decide +kernel

/-- Due times and order of the three entries of 06: 2,005,000, 2,010,000 and 2,015,000. -/
theorem test_tickets_of_an_enumerated_tooth :
    let s := withEntry 9 { note with image := { note.image with start := 750 } }
      (withEntry 5 window (withEntry 2 note { running .locked 12 State.reset with stamp := 2000000 }))
    (enumerateEntry 720 780 (some 20000) (enumerateEntry 720 780 (some 20000) (enumerateEntry 720 780 (some 20000) s 2) 5)
        9).fs.tickets.map (fun t => (t.due.toNat, t.entry.val, t.point))
      = [(2005000, 5, .start), (2010000, 9, .start), (2015000, 5, .stop)] := by
  decide +kernel

/-- A 25th point finds the list full and is deferred, with one overflow counted (06, the crowded tooth). -/
theorem test_ticket_overflow_defers :
    let s : State := { State.reset with fs := { State.reset.fs with tickets := List.replicate 24 ⟨0, .start, 5, 42⟩ } }
    (addTicket ⟨24, .start, 3, 42⟩ s).fs.deferred = [⟨24, .start⟩] ∧ (addTicket ⟨24, .start, 3, 42⟩ s).fs.overflows = 1
      ∧ (addTicket ⟨24, .start, 3, 42⟩ s).fs.tickets.length = 24 := by
  decide +kernel

/-- The contributions of one track (07): latch, window and pulse, and the inverted line. -/
theorem test_track_levels :
    (Track.mk none false 1 (some 7000) false false false).logical = true
      ∧ (Track.mk none false 0 none true false false).line = true
      ∧ (Track.mk none false 1 (some 7000) false false false).pulseMicros = 1750 := by
  decide

/-- A loss of lock (07): SAFE takes its safe state and drops its pulse, KEEP keeps its latch. -/
theorem test_on_loss_settings :
    (Track.mk (some 3) false 0 (some 4000) true true false).onLoss = Track.mk (some 3) true 0 none true true false
      ∧ (Track.mk (some 1) true 0 none false false true).onLoss = Track.mk (some 1) true 0 none false false true := by
  decide

/-- One event, CP0 (08): the tag passes under the slot mask 0xF0, and a full queue counts a lost record. -/
theorem test_delivery_to_a_full_queue :
    let q : EventPort := { EventPort.default with
      slots := EventPort.default.slots.set 0 ⟨true, 0x30, 0xF0, 0b111, false, false⟩
      queue := List.replicate 16 inputRecord
      lost := 3 }
    ((q.deliver 0 fireRecord).lost, (q.deliver 0 fireRecord).overflowCause, (q.deliver 0 fireRecord).queue.length)
      = (4, true, 16) := by
  decide +kernel

/-- One event, CP1 (08): slot 0 does not take FIRE, and slot 1's fresh register is overwritten. -/
theorem test_delivery_to_a_latest_register :
    let q : EventPort := { EventPort.default with
      slots := (EventPort.default.slots.set 0 ⟨true, 0, 0, 0b10000, true, false⟩).set 1 ⟨true, 0, 0, 1, true, true⟩
      latest := EventPort.default.latest.set 1 ⟨some inputRecord, true, false, true⟩ }
    (q.deliver 1 fireRecord).latest[1] = ⟨some fireRecord, true, true, false⟩ ∧ (q.deliver 3 fireRecord) = q := by
  decide +kernel

/-- Reading a latest register (10): the response, the mark, and the read-completion that clears fresh. -/
theorem test_read_latest_and_its_completion :
    let s := inFrame 1 (State.reset.modEvents 1 fun q =>
      { q with latest := q.latest.set 2 ⟨some fireRecord, true, false, false⟩ })
    let t := after (.readLatest 1 2) s
    let u := after (.selectRise 1) (t.modPort 1 fun q => { q with framing := .trailing })
    t.pi[1].response = [0x00, 0x01, 0x01, 0x08, 0x35, 12, 0x08, 0xA2, 0x05, 0xAA, 0x50, 0xDF, 0x20]
      ∧ t.er[1].latest[2].mark = true ∧ u.er[1].latest[2].fresh = false := by
  decide +kernel

/-- Two readers of one input (01): a change after the read removes the mark, so the latch stays set. -/
theorem test_latch_set_again_survives_the_read :
    let s := inFrame 2 (gateChanged 1 State.reset)
    let t := gateChanged 1 (after (.readInputs 2) s)
    let u := after (.selectRise 2) (t.modPort 2 fun q => { q with framing := .trailing })
    u.eq.latches[2][1] = ⟨true, false⟩ := by
  decide +kernel

/-- READ_ATTN (08): LOCK comes before OVERFLOW, and a masked cause is reported as pending alone. -/
theorem test_read_attn_reports_causes :
    let s := State.reset.modEvents 0 fun q => { q with lockCause := true, overflowCause := true, attnMask := 0b100 }
    summaryOf (s.effectiveCauses 0) = 2 + 1 ∧ reply 0 (.readAttn 0) s = [0x00, 3, 0, 0b101, 0, 0b100] := by
  decide +kernel

/-- Quotas and the lowest free index (05). -/
theorem test_alloc_takes_the_lowest_free_index :
    reply 3 (.allocEntry 3) (withEntry 0 (inState note .held) State.reset) = [0x00, 1]
      ∧ reply 1 (.allocEntry 1) { State.reset with ctc := { State.reset.ctc with quota := Vector.replicate 4 0 } } = [0x07] := by
  decide +kernel

/-- A handoff with a commit pending (09): the detach passes the claim and leaves the commit, and staging gives PENDING. -/
theorem test_detach_passes_the_claim :
    let s := committing { holding State.reset with cc := { (holding State.reset).cc with waiting := [1, 2] } }
    ((after (.detach 0) (inFrame 0 s)).cc.holder, (after (.detach 0) (inFrame 0 s)).cc.waiting,
        (after (.detach 0) (inFrame 0 s)).cc.pendingRecord.isSome) = (some 1, [2], true)
      ∧ reply 0 (.stageParam 0 0x16 2) s = [0x08] := by
  decide +kernel

/-! ### Encodings (R196 to R201) -/

theorem test_status_after_reset :
    reply 0 (.readStatus 0) State.reset
      = [0, 0, 0, 0, 0, 0, 0, 0, 0, 0, 0, 0, 0, 0, 0, 1, 0xFF, 0, 0, 0xFF, 0xFF, 0, 0]
        ++ List.replicate 16 (0 : Byte) := by
  decide +kernel

theorem test_default_parameters_read_back :
    reply 0 (.readParam 0 0x01 0) State.reset = [0x00, 0x01, 0, 0, 60]
      ∧ reply 0 (.readParam 0 0x1C 0) State.reset = [0x00, 0x1C, 0x1E, 0x84, 0x80]
      ∧ reply 0 (.readParam 0 0x2F 0) State.reset = [0x00, 0x2F, 0, 0, 0xF3] := by
  decide +kernel

theorem test_free_entry_reads_as_the_default_image :
    reply 0 (.readEntry 0 63) State.reset
      = [0x00, 0, 0, 0, 0xFF, 0xFF, 0xFF, 0, 0, 0, 0, 0, 0, 0, 0xFF, 0, 0, 0] := by
  decide +kernel

theorem test_unknown_code_gives_unknown : reply 0 (.unknownCode 0 0x60) State.reset = [0x0C] := by decide +kernel

theorem test_request_bytes_decode :
    decodeRequest 2 [0x54, 0x1C, 0x01, 0x86, 0xA0] = some (.stageParam 2 0x1C 100000)
      ∧ decodeRequest 1 [0x46, 0x01, 0xFF, 8] = some (.setAttnMask 1 511 8) ∧ decodeRequest 0 [0x26, 3] = none := by
  decide +kernel

/-! ### Witnesses: the hypotheses of each statement can be met together -/

/-- Every request statement asks that port p can complete the request: so it is in every fresh frame, whatever the rest. -/
theorem witness_answers (p : Port) (bytes : List Byte) (h : bytes ≠ []) (s : State) (high : s.resetLow = false) :
    Receives p bytes (inFrame p s) := by
  have hl : 0 < bytes.length := List.length_pos_iff.2 h
  refine ⟨high, ?_, ?_, ?_⟩ <;> simp [inFrame, hl]

/-- A fresh frame changes nothing but the port, so every hypothesis on the rest of s below holds of it as well. -/
theorem witness_answers_rest (p : Port) (s : State) : inFrame p s = { s with pi := (inFrame p s).pi } := rfl

theorem witness_EmptyQueueTakesDueEventOrOnePu :
    (State.reset.pending = [] ∧ dueEvents State.reset = [] ∧ State.reset.resetLow = false)
      ∧ (dueEvents (holdInReset port0) = [] ∧ (holdInReset port0).resetLow = true ∧ holdInReset port0 = holdInReset (holdInReset port0))
      ∧ let s := { State.reset with
          pt := { State.reset.pt with gap := .running 2000001 }
          ls := { State.reset.ls with standstill := .running 2000001 } }
        s.pending = [] ∧ 2 ≤ (dueEvents s).length := by
  decide +kernel

/-- Each of the seven timed events is due in a state of its own, and alone. -/
theorem witness_due_events :
    dueEvents (gateRun true State.reset) = [.runExpiry (.gate 0)]
      ∧ dueEvents { State.reset with pt := { State.reset.pt with gap := .running 2000001 } } = [.gapCountExpiry]
      ∧ dueEvents { State.reset with ls := { State.reset.ls with standstill := .running 2000001 } } = [.standstillExpiry]
      ∧ dueEvents (later 30000 (running .locked 3 State.reset)) = [.missDeadlineExpiry]
      ∧ dueEvents { later 40000 (running .freerun 3 State.reset) with
          ag := { (later 40000 (running .freerun 3 State.reset)).ag with deadline := none } } = [.freeStep]
      ∧ dueEvents (due .start State.reset) = [.ticketDue]
      ∧ dueEvents (State.reset.modTrack 7 fun k => { k with pulse := some 0 }) = [.pulseEnd 7] := by
  decide +kernel

theorem witness_EveryCommandAnswersAndKeepsTheQueue :
    encodeRequest (.nop 0) = some (0, [0x00]) ∧ ¬Receives 0 [0x00] State.reset := by
  decide +kernel

/-- An IDLE port and one in a frame, before DEVICE_RESET. -/
theorem witness_DeviceReset :
    State.reset.pi[(0 : Port)].framing = .idle ∧ port0.pi[(0 : Port)].framing ≠ .idle := by
  decide +kernel

/-- Device reset from its fall to its end (10, R195): within a frame CPpSDO is at high impedance while RESET_n is low, and
its end leaves the port DISCARDING with ones; EQ takes the level that the line reached meanwhile. -/
theorem test_device_reset_is_held :
    let s := after .deviceReset (running .locked 3 port0)
    let t := tick (after (.rawLevelChange .tooth true) s)
    (s.pi[0].sdo, s.pi[0].framing, t.pi[0].sdo, t.pi[0].framing) = (none, .discarding, some true, .discarding)
      ∧ after (.nop 0) s = s ∧ t.eq.tooth = ⟨true, true, none⟩ ∧ t.ls.lock = .stopped := by
  decide +kernel

/-- The hub right after device reset is State.reset, where no pin moves and no port is in a frame. -/
theorem test_device_reset_ends_as_reset :
    step (after .deviceReset (running .locked 3 State.reset)) = .next State.reset := by
  have h : (after .deviceReset (running .locked 3 State.reset)).pending = [] := rfl
  unfold step ownStep
  rw [h, show after .deviceReset (running .locked 3 State.reset) = holdInReset State.reset by decide +kernel]
  rw [dueEvents_holdInReset, show tick (holdInReset State.reset) = State.reset by decide +kernel]

theorem witness_NothingRunsWhileResetIsLow :
    (holdInReset port0).resetLow = true ∧ HeldInReset (holdInReset port0) := by
  unfold HeldInReset
  decide +kernel

theorem witness_RawLevelChangeTimesARunOrPassesAtOnce :
    (State.reset.resetLow = false ∧ (State.reset.eq.line .tooth).raw = false)
      ∧ ((State.reset.eq.line .tooth).raw ≠ true ∧ State.reset.cc.active.widthCode .tooth ≠ 0)
      ∧ let s := { State.reset with cc := { State.reset.cc with active := { State.reset.cc.active with toothWidth := 0 } } }
        ((s.eq.line .tooth).raw ≠ true ∧ s.cc.active.widthCode .tooth = 0 ∧ (s.eq.line .tooth).filtered ≠ true)
          ∧ let u := { s with eq := { s.eq with tooth := ⟨false, true, some 3⟩ } }
            (u.eq.line .tooth).raw ≠ true ∧ (u.eq.line .tooth).filtered = true := by
  decide +kernel

theorem witness_ToothRunExpiryThatIsNoRealEdge :
    (let s := toothRun false State.reset;
      runDue .tooth s = true ∧ s.cc.active.toothPolarity.accepts s.eq.tooth.raw = false)
      ∧ let s := toothRun true { State.reset with stamp := 104999, eq := { State.reset.eq with window := some ⟨100000, 5000⟩ } }
        runDue .tooth s = true ∧ s.cc.active.toothPolarity.accepts s.eq.tooth.raw = true ∧ inBlanking s = true := by
  decide +kernel

theorem witness_IndexRunExpiryIsAnIndexArrival :
    (let s := indexRun false State.reset;
      runDue .index s = true ∧ s.cc.active.indexPolarity.accepts s.eq.index.raw = false)
      ∧ let s := indexRun true State.reset
        runDue .index s = true ∧ s.cc.active.indexPolarity.accepts s.eq.index.raw = true := by
  decide +kernel

theorem witness_GateRunExpiryLatchesAndPostsTheChange :
    (let s := gateRun true State.reset;
      runDue (.gate 0) s = true ∧ (s.eq.gates[0].raw == s.cc.active.gates[0].activeHigh) ≠ s.eq.active[0])
      ∧ let s := gateRun false State.reset
        runDue (.gate 0) s = true ∧ (s.eq.gates[0].raw == s.cc.active.gates[0].activeHigh) = s.eq.active[0] := by
  decide +kernel

/-- Clause by clause, with the gap at the standstill limit and one above, and the interval at the edge of a speed step. -/
theorem witness_RealEdgeIsMeasured :
    State.reset.pt.lastEdge = none
      ∧ (∀ g ∈ [Timer.expired, Timer.running 2000001],
        let s := { State.reset with pt := { State.reset.pt with lastEdge := some 3, gap := g } }
        s.pt.lastEdge = some 3 ∧ (s.pt.gap = .expired ∨ s.pt.gap = .running 2000001 ∧ s.cc.active.standstillLimit < 2000001))
      ∧ (let s := { State.reset with
          pt := { State.reset.pt with lastEdge := some 3, gap := .running 2000000 }
          ag := { State.reset.ag with synthSinceReal := true } }
        s.pt.lastEdge = some 3 ∧ s.pt.gap = .running 2000000 ∧ 2000000 ≤ s.cc.active.standstillLimit
          ∧ s.ag.synthSinceReal = true)
      ∧ ∀ n ∈ [17500, 17499],
        let s := later n (running .locked 17 State.reset)
        s.pt.gap = .running n ∧ n ≤ s.cc.active.standstillLimit ∧ s.ag.synthSinceReal = false ∧ 0 < n
          ∧ isSpeedStep s.cc.active s.estimate n = decide (n = 17499) := by
  decide +kernel

theorem witness_RealEdgesWithoutAStep :
    ∀ l ∈ [LockState.stopped, LockState.search, LockState.freerun],
      let s := toothRun true { State.reset with ls := { State.reset.ls with lock := l } }
      runDue .tooth s = true ∧ s.cc.active.toothPolarity.accepts s.eq.tooth.raw = true ∧ inBlanking s = false
        ∧ s.ls.lock = l ∧ s.ag.indexPending = false := by
  decide +kernel

theorem witness_LateAcceptanceAnchorsTheTooth :
    ∀ l ∈ [LockState.acquire, LockState.locked, LockState.holdover],
      let s := toothRun true (later 9999 (running l 18 State.reset))
      let u := { s with ag := { s.ag with lateWindow := some 10000 } }
      runDue .tooth u = true ∧ u.cc.active.toothPolarity.accepts u.eq.tooth.raw = true ∧ inBlanking u = false
        ∧ u.ls.lock = l ∧ u.ag.timer < 10000 ∧ u.ag.valid = true := by
  decide +kernel

theorem witness_RealStepAdvancesTheTooth :
    ∀ l ∈ [LockState.acquire, LockState.locked, LockState.holdover],
      let s := toothRun true (later 10000 (running l 18 State.reset))
      let u := { s with ag := { s.ag with lateWindow := some 10000 } }
      runDue .tooth u = true ∧ u.cc.active.toothPolarity.accepts u.eq.tooth.raw = true ∧ inBlanking u = false
        ∧ u.ls.lock = l ∧ inLateWindow u = false ∧ u.ag.valid = true ∧ u.cc.pendingRecord = none := by
  decide +kernel

theorem quiet_reset : QuietOutsideFiring State.reset := by
  unfold QuietOutsideFiring
  decide +kernel

theorem witness_AlignMakesTheAngleValid :
    let s := toothRun true { State.reset with
      ls := { State.reset.ls with lock := .search }, ag := { State.reset.ag with indexPending := true } }
    runDue .tooth s = true ∧ s.cc.active.toothPolarity.accepts s.eq.tooth.raw = true ∧ inBlanking s = false
      ∧ s.ls.lock = .search ∧ s.ag.indexPending = true ∧ QuietOutsideFiring s := by
  unfold QuietOutsideFiring
  decide +kernel

/-- The count one above the limit and at it; a pulse that has run out and none. -/
theorem witness_RunOutCountsAndPulsesEnd :
    (let s := { State.reset with pt := { State.reset.pt with gap := .running 2000001 } };
      s.pt.gap = .running 2000001 ∧ s.cc.active.standstillLimit < 2000001)
      ∧ (let s := { State.reset with pt := { State.reset.pt with gap := .running 2000000 } }
        s.pt.gap = .running 2000000 ∧ 2000000 ≤ s.cc.active.standstillLimit)
      ∧ (State.reset.modTrack 7 (fun k => { k with pulse := some 0 })).td[(7 : TrackNo)].pulse = some 0
      ∧ (State.reset.modTrack 7 (fun k => { k with pulse := some 1 })).td[(7 : TrackNo)].pulse ≠ some 0 := by
  decide +kernel

theorem witness_StandstillExpiryStopsSearchAndAcquire :
    ∀ l ∈ [LockState.stopped, LockState.search, LockState.acquire, LockState.locked, LockState.holdover, LockState.freerun],
      let s := running l 17 State.reset
      let u := { s with ls := { s.ls with standstill := .running 2000001 } }
      u.ls.standstill = .running 2000001 ∧ u.cc.active.standstillLimit < 2000001 ∧ u.ls.lock = l ∧ u.ag.deadline ≠ none
        ∧ { u with ag := { u.ag with deadline := none } }.ag.deadline = none ∧ u.cc.pendingRecord = none := by
  decide +kernel

theorem witness_MissDeadlineExpirySynthesizesATooth :
    ∀ l ∈ [LockState.acquire, LockState.locked, LockState.holdover],
      let s := later 30000 (running l 59 State.reset)
      s.ag.deadline = some 30000 ∧ 30000 ≤ s.ag.timer ∧ s.ag.valid = true ∧ s.cc.pendingRecord = none ∧ s.ls.lock = l := by
  decide +kernel

theorem witness_TooManyMissesEnterHoldover :
    let s := later 30000 (running .locked 58 State.reset)
    let u := { s with ag := { s.ag with missCount := 2 } }
    u.ag.deadline = some 30000 ∧ 30000 ≤ u.ag.timer ∧ u.ls.lock = .locked ∧ u.ag.valid = true ∧ u.ag.indexPending = false
      ∧ u.ag.tooth + 1 < u.cc.active.toothCount ∧ u.cc.active.missLimit < u.ag.missCount + 1 ∧ u.ag.missCount < 65535 := by
  decide +kernel

theorem witness_FreeStepAdvancesTheTooth :
    let s := later 40000 (running .freerun 59 State.reset)
    s.ls.lock = .freerun ∧ s.ag.freeRunning = true ∧ s.ag.valid = true ∧ s.cc.active.freeRunPeriod ≤ s.ag.timer
      ∧ s.cc.pendingRecord = none := by
  decide +kernel

/-- A LIVE NOTE in FREERUN whose point the step takes, and the hub outside the firing set. -/
theorem witness_StepLeavesOnlyTheNewToothsTickets :
    (State.reset.cc.pendingRecord = none ∧ State.reset.inFiring = false)
      ∧ let s := withEntry 5 note (running .freerun 12 State.reset)
        s.cc.pendingRecord = none ∧ s.inFiring = true
          ∧ let t := schedulerStep applyPending ⟨.free, 12, 0, 0, 0, .unchecked⟩ s
            t.ctc.entries[(5 : EntryNo)].state = .live ∧ t.ls.lock ≠ .holdover
              ∧ pointAngleOf t.ctc.entries[(5 : EntryNo)] .start = some 720 := by
  decide +kernel

theorem witness_StepFiresWhatIsLeftLate :
    (due .start State.reset).fs.tickets = [⟨5, .start, 0, 300⟩]
      ∧ (let s := { State.reset with fs := { State.reset.fs with deferred := [⟨5, .start⟩] } }
        s.fs.tickets = [] ∧ s.fs.deferred = [⟨5, .start⟩])
      ∧ State.reset.fs.tickets = [] ∧ State.reset.fs.deferred = [] := by
  decide +kernel

/-- In tooth 12, from 720 to 780 au: a point outside it, one taken, one on a list, the START of a spent WINDOW; one at the
tooth's start; and one past it with room on the list, with the list full, and without a period. -/
theorem witness_EnumerationPlacesEachPoint :
    let s := withEntry 5 window (withEntry 2 note State.reset)
    let full := { s with fs := { s.fs with tickets := List.replicate 24 ⟨0, .start, 5, 42⟩ } }
    pointAngleOf s.ctc.entries[(2 : EntryNo)] .stop = none ∧ pointAngleOf note .start = some 720 ∧ (720 < 780 ∧ 660 ≤ 720)
      ∧ isTaken (markTaken 2 .start s) 2 .start ∧ isListed (due .stop s) 5 .stop
      ∧ isSpentStart { window with spent := true } .start
      ∧ (¬isTaken s 2 .start ∧ ¬isListed s 2 .start ∧ ¬isSpentStart s.ctc.entries[(2 : EntryNo)] .start)
      ∧ pointAngleOf s.ctc.entries[(5 : EntryNo)] .start = some 735
      ∧ (¬isTaken s 5 .start ∧ ¬isListed s 5 .start ∧ ¬isSpentStart s.ctc.entries[(5 : EntryNo)] .start)
      ∧ s.fs.tickets.length < 24 ∧ ticketsOrdered s.stamp s.fs.tickets ∧ deferredOrdered s.fs.deferred
      ∧ 24 ≤ full.fs.tickets.length ∧ ¬isTaken full 5 .start ∧ ¬isListed full 5 .start := by
  unfold isTaken isListed isSpentStart ticketsOrdered deferredOrdered pointsOrdered
  decide +kernel

/-- A ticket whose point the new base angle 750 has passed, and one that lies at or above the base angle 720. -/
theorem witness_FreerunOnRetimesTheTooth :
    ∀ b ∈ [720, 750],
      let s := due .start (withEntry 5 window (running .freerun 12 State.reset))
      let u := { s with ag := { s.ag with base := b } }
      u.fs.tickets = [] ++ ⟨5, .start, u.stamp, 300⟩ :: []
        ∧ pointAngleOf u.ctc.entries[(5 : EntryNo)] .start = some 735 ∧ (735 < u.ag.base ↔ b = 750) := by
  decide +kernel

/-- With a count to spare, and with the last one; the ticket of FiresTo is due at this moment. -/
theorem witness_SatisfiedStartFiresAPointAction :
    ∀ n ∈ [0, 1, 2],
      let s := withEntry 5 { note with image := { note.image with count := n } } (running .locked 12 State.reset)
      s.ctc.entries[(5 : EntryNo)].state = .live ∧ s.ctc.entries[(5 : EntryNo)].image.action ≠ .window
        ∧ gateSatisfied s s.ctc.entries[(5 : EntryNo)].image.gate = true
        ∧ s.ctc.entries[(5 : EntryNo)].image.count = n
        ∧ (⟨5, .start, s.stamp, 300⟩ : Ticket).due = s.stamp := by
  decide +kernel

/-- A NOTE and a closed WINDOW that their gate refuses, and an open WINDOW. -/
theorem witness_RefusedAndDroppedStarts :
    (∀ e ∈ [note, window],
      let s := withEntry 5 { e with image := { e.image with gate := .active 2 } } (running .locked 12 State.reset)
      s.ctc.entries[(5 : EntryNo)].state = .live ∧ s.ctc.entries[(5 : EntryNo)].windowOpen = false
        ∧ gateSatisfied s s.ctc.entries[(5 : EntryNo)].image.gate = false)
      ∧ let e := { window with windowOpen := true }
        e.state = .live ∧ e.image.action = .window ∧ e.windowOpen = true := by
  decide +kernel

theorem witness_SatisfiedStartOpensTheWindow :
    let s := withTrack 0 (withEntry 5 window (running .locked 12 State.reset))
    s.ctc.entries[(5 : EntryNo)].state = .live ∧ s.ctc.entries[(5 : EntryNo)].image.action = .window
      ∧ s.ctc.entries[(5 : EntryNo)].windowOpen = false
      ∧ gateSatisfied s s.ctc.entries[(5 : EntryNo)].image.gate = true := by
  decide +kernel

/-- With the window open, open and spent, and closed. -/
theorem witness_EndClosesTheWindow :
    ∀ w ∈ [(true, false), (true, true), (false, false)],
      let s := withTrack 0 (withEntry 5 { window with windowOpen := w.1, spent := w.2 } (running .locked 12 State.reset))
      s.ctc.entries[(5 : EntryNo)].state = .live ∧ s.ctc.entries[(5 : EntryNo)].image.action = .window
        ∧ s.ctc.entries[(5 : EntryNo)].windowOpen = w.1 ∧ s.ctc.entries[(5 : EntryNo)].spent = w.2 := by
  decide +kernel

theorem witness_LossTeardownLeavesNothingOpen :
    let s := (withTrack 0 (withEntry 5 window (running .acquire 0 State.reset))).modTrack 1 fun k =>
      { k with owner := some 1, keepOnLoss := true }
    s.cc.pendingRecord = none ∧ s.ctc.entries[(5 : EntryNo)].windowOpen = false
      ∧ (s.td[(0 : TrackNo)].owner ≠ none ∧ s.td[(0 : TrackNo)].keepOnLoss = false)
      ∧ s.td[(1 : TrackNo)].keepOnLoss = true ∧ s.td[(2 : TrackNo)].owner = none := by
  decide +kernel

theorem witness_TeethAndTheInterpolatedAngle :
    ((4 ≤ 4 ∧ 4 ≤ 240) ∧ 4 ≤ 240 ∧ 240 ≤ 240) ∧ State.reset.ag.valid = false ∧ State.reset.ls.lock = .stopped
      ∧ ∀ l ∈ [LockState.acquire, LockState.locked, LockState.holdover, LockState.freerun],
        let s := later 29000 (running l 17 State.reset)
        s.ag.valid = true ∧ s.ls.lock = l ∧ s.angle = some (if l = .freerun then 1063 else 1079) ∧ s.ag.base < s.toothEnd := by
  decide +kernel

/-- No slot of the default settings takes a record; with slot 0 set, it is the first that does, whatever its mode. -/
theorem witness_RecordGoesToTheFirstMatchingSlot :
    (∀ n : SlotNo, ¬slotMatches State.reset.er[(0 : Port)] 0 inputRecord n)
      ∧ ∀ latest : Bool,
        let s := State.reset.modEvents 0 fun q => { q with slots := q.slots.set 0 ⟨true, 0, 0, 0x3F, false, latest⟩ }
        slotMatches s.er[(0 : Port)] 0 inputRecord 0 ∧ ∀ m : SlotNo, m < 0 → ¬slotMatches s.er[(0 : Port)] 0 inputRecord m := by
  constructor
  · have h : ∀ n : SlotNo, State.reset.er[(0 : Port)].slots[n].enabled = false := by decide +kernel
    exact fun n g => absurd g.1 (by rw [h n]; decide)
  · intro latest
    refine ⟨⟨rfl, by cases latest <;> decide +kernel, Or.inl rfl, ?_⟩, fun m h => absurd h (Nat.not_lt_zero m.val)⟩
    intro j _ h
    exact absurd (show (0 : Byte).getLsbD j = true from h) (by simp)

theorem witness_RiseOutsideTrailingIsNoReadCompletion :
    State.reset.pi[(0 : Port)].framing = .idle
      ∧ (port0.pi[(0 : Port)].framing = .receiving ∧ marked port0 0 = false)
      ∧ (framed 0 .responding true State.reset).pi[(0 : Port)].framing = .responding
      ∧ (framed 0 .discarding true State.reset).pi[(0 : Port)].framing = .discarding := by
  decide +kernel

/-- Port 3 in TRAILING with each mark held, over a value for each to clear, and port 0 with a mark and no value. -/
def marksHeld : State :=
  let s := framed 3 .trailing true State.reset
  { s with
    eq := { s.eq with latches := s.eq.latches.set 3 (Vector.replicate 4 ⟨true, true⟩) }
    pt := { s.pt with stepSeen := (s.pt.stepSeen.set 3 ⟨true, true⟩).set 0 ⟨false, true⟩ }
    ls := { s.ls with lockMarks := s.ls.lockMarks.set 3 true }
    cc := { s.cc with claimMarks := s.cc.claimMarks.set 3 true }
    er := s.er.set 3 { s.er[3] with
      lockCause := true
      claimCause := true
      overflowCause := true
      queue := [inputRecord, fireRecord]
      lost := 65535
      popMark := true
      lostMark := true
      latest := s.er[3].latest.set 3 ⟨some inputRecord, true, true, true⟩ } }

theorem witness_ReadCompletionClearsWhatIsMarked :
    (framed 3 .trailing true State.reset).pi[(3 : Port)].framing = .trailing
      ∧ marksHeld.pi[(3 : Port)].framing = .trailing ∧ marked marksHeld 3 = true := by
  decide +kernel

/-- With every mark held, the read-completion clears every value that is marked, and takes the oldest record off. -/
theorem test_read_completion_of_every_mark :
    let t := after (.selectRise 3) marksHeld
    marked t 3 = false ∧ t.er[(3 : Port)].queue = [fireRecord] ∧ t.er[(3 : Port)].lost = 0
      ∧ t.er[(3 : Port)].lockCause = false ∧ t.er[(3 : Port)].claimCause = false ∧ t.er[(3 : Port)].overflowCause = false
      ∧ t.er[(3 : Port)].latest[(3 : SlotNo)] = ⟨some inputRecord, false, false, false⟩
      ∧ t.pt.stepSeen[(3 : Port)].value = false ∧ t.pt.stepSeen[(0 : Port)].mark = true := by
  decide +kernel

theorem witness_SelectFallAndClockEdgesMoveTheFrame :
    State.reset.resetLow = false ∧ State.reset.pi[(0 : Port)].framing = .idle ∧ State.reset.pi[(0 : Port)].sck = false
      ∧ (port0.pi[(0 : Port)].sck = false ∧ port0.pi[(0 : Port)].framing = .receiving
        ∧ requestComplete (port0.pi[(0 : Port)].bits ++ [true]) = false)
      ∧ ∀ f ∈ [Framing.receiving, .responding, .trailing, .discarding, .idle], ∀ c : Bool,
        (framed 0 f c State.reset).pi[(0 : Port)].framing = f ∧ (framed 0 f c State.reset).pi[(0 : Port)].sck = c := by
  decide +kernel

/-- An unlisted code, the greatest index, number and slot, and the least ones out of range. -/
theorem witness_PlainReadsChangeNothing :
    operandCount 0x01 = none ∧ (63 : Byte) = octet (63 : EntryNo).val ∧ 64 ≤ (64 : Byte).toNat
      ∧ (7 : Byte) = octet (7 : TrackNo).val ∧ 8 ≤ (8 : Byte).toNat ∧ (3 : Byte) = octet (3 : SlotNo).val
      ∧ 4 ≤ (4 : Byte).toNat := by
  decide

theorem claim_reset : ClaimSound State.reset ∧ ClaimSound (holding State.reset) := by
  unfold ClaimSound
  decide +kernel

theorem witness_ReadParamReadsTheNamedRecord :
    ClaimSound State.reset ∧ ClaimSound (holding State.reset) ∧ paramOf 0x06 = none ∧ 3 ≤ (3 : Byte).toNat
      ∧ paramOf 0x2F = some (.gateTag 3) ∧ State.reset.cc.holder = none
      ∧ (holding State.reset).cc.staged = some State.reset.cc.active ∧ State.reset.cc.pendingRecord = none
      ∧ (committing State.reset).cc.pendingRecord = some State.reset.cc.active := by
  unfold ClaimSound
  decide +kernel

theorem witness_DeliveryReadsMarkWhatTheyReport :
    State.reset.er[(0 : Port)].queue = []
      ∧ (State.reset.modEvents 0 fun q => { q with queue := [inputRecord] }).er[(0 : Port)].queue = [inputRecord]
      ∧ 4 ≤ (4 : Byte).toNat ∧ (3 : Byte) = octet (3 : SlotNo).val
      ∧ State.reset.er[(0 : Port)].latest[(3 : SlotNo)].record = none
      ∧ (State.reset.modEvents 0 fun q =>
          { q with latest := q.latest.set 3 ⟨some inputRecord, true, false, false⟩ }).er[(0 : Port)].latest[(3 : SlotNo)].record
        = some inputRecord := by
  decide +kernel

/-- At the quota; below it with no entry FREE; below it with entry 1 the lowest FREE one. -/
theorem witness_AllocEntryHandsOutTheLowestFreeEntry :
    (let s := { State.reset with ctc := { State.reset.ctc with owned := Vector.replicate 4 16 } };
      s.ctc.quota[(0 : Port)] ≤ s.ctc.owned[(0 : Port)])
      ∧ (let s := { State.reset with ctc := { State.reset.ctc with
          owned := Vector.replicate 4 15, entries := Vector.replicate 64 (inState note .held) } }
        s.ctc.owned[(0 : Port)] < s.ctc.quota[(0 : Port)] ∧ ∀ i : EntryNo, s.ctc.entries[i].state ≠ .free)
      ∧ let s := withEntry 0 (inState note .held) State.reset
        s.ctc.owned[(0 : Port)] < s.ctc.quota[(0 : Port)] ∧ s.ctc.entries[(1 : EntryNo)].state = .free
          ∧ ∀ j : EntryNo, j < 1 → s.ctc.entries[j].state ≠ .free := by
  decide +kernel

/-- An entry of port 0 in each state, an image at the ends of its ranges and one just beyond. -/
theorem witness_WriteEntryTakesAWholeImage :
    (∀ st ∈ [EntryState.held, .arming, .live],
        (withEntry 63 (inState note st) State.reset).ctc.entries[(63 : EntryNo)].owner = some 0
          ∧ (withEntry 63 (inState note st) State.reset).ctc.entries[(63 : EntryNo)].state = st)
      ∧ imageInRange ⟨4, 3599, 0xFFFF, 7, 0, 0, 0x23, 7, 255⟩ ∧ ¬imageInRange ⟨4, 3600, 0xFFFF, 7, 0, 0, 0x23, 7, 255⟩
      ∧ ¬imageInRange ⟨4, 3599, 0xFFFF, 8, 0, 0, 0x23, 7, 255⟩ := by
  unfold imageInRange
  decide +kernel

theorem witness_ArmEntryValidatesAndArms :
    (∀ st ∈ [EntryState.arming, .live],
        (withEntry 0 (inState note st) State.reset).ctc.entries[(0 : EntryNo)].owner = some 0
          ∧ (withEntry 0 (inState note st) State.reset).ctc.entries[(0 : EntryNo)].state = st)
      ∧ (let s := withEntry 0 (inState { window with image := { window.image with stop := some 735 } } .held) State.reset
        s.ctc.entries[(0 : EntryNo)].state = .held ∧ armingOutOfRange s.ctc.entries[(0 : EntryNo)])
      ∧ (let s := withEntry 0 (inState window .held) State.reset
        s.ctc.entries[(0 : EntryNo)].state = .held ∧ ¬armingOutOfRange s.ctc.entries[(0 : EntryNo)]
          ∧ ¬namedTrackOwned s s.ctc.entries[(0 : EntryNo)])
      ∧ let s := withTrack 0 (withEntry 0 (inState window .held) State.reset)
        s.ctc.entries[(0 : EntryNo)].state = .held ∧ ¬armingOutOfRange s.ctc.entries[(0 : EntryNo)]
          ∧ namedTrackOwned s s.ctc.entries[(0 : EntryNo)] := by
  unfold armingOutOfRange namedTrackOwned
  decide +kernel

theorem witness_HoldAndFreeTakeOutOfService :
    ∀ st ∈ [EntryState.held, .arming, .live],
      (withEntry 0 (inState window st) State.reset).ctc.entries[(0 : EntryNo)].owner = some 0
        ∧ (withEntry 0 (inState window st) State.reset).ctc.entries[(0 : EntryNo)].state = st := by
  decide +kernel

/-- In HOLDOVER, entry 0 as port 0's LIVE window that is open, spent or not. -/
def openWindow (spent : Bool) : State :=
  withTrack 0 (withEntry 0 { window with windowOpen := true, spent := spent } (running .holdover 3 State.reset))

/-- Masks that name a fourth flag or one flag twice; masks that are taken; a LIVE entry paused in HOLDOVER, its open
window spent or not. -/
theorem witness_ModifyFlagsSetsAndClears :
    8 ≤ (8 : Byte).toNat ∧ (1 : Byte) &&& 1 ≠ 0 ∧ (7 : Byte).toNat < 8 ∧ (7 : Byte) &&& 0 = 0
      ∧ (let s := withEntry 0 note State.reset
        s.ctc.entries[(0 : EntryNo)].owner = some 0 ∧ s.ls.lock ≠ .holdover)
      ∧ (∀ spent ∈ [false, true],
        let s := openWindow spent
        s.ctc.entries[(0 : EntryNo)].owner = some 0 ∧ s.ls.lock = .holdover ∧ s.ctc.entries[(0 : EntryNo)].state = .live
          ∧ s.ctc.entries[(0 : EntryNo)].image.flags.pause = false ∧ s.ctc.entries[(0 : EntryNo)].windowOpen = true
          ∧ s.ctc.entries[(0 : EntryNo)].spent = spent)
      ∧ ∃ f : EntryFlags, f.code = (window.image.flags.code ||| 4) &&& ~~~0 ∧ f.pause = true := by
  refine ⟨by decide, by decide, by decide, by decide, by decide +kernel, by decide +kernel, ⟨false, false, true⟩, ?_, ?_⟩
  all_goals decide +kernel

/-- R97, R99, R100, R120: PAUSE set in HOLDOVER closes an open window with FORCED, and a spent one becomes HELD and
SPENT. -/
theorem test_pause_closes_a_spent_window :
    (after (.modifyFlags 0 0 4 0) (inFrame 0 (openWindow true))).ctc.entries[(0 : EntryNo)].state = .held
      ∧ (after (.modifyFlags 0 0 4 0) (inFrame 0 (openWindow false))).ctc.entries[(0 : EntryNo)].state = .live := by
  decide +kernel

theorem witness_RequestsOfOthersAreRefused :
    64 ≤ (64 : Byte).toNat ∧ (63 : Byte) = octet (63 : EntryNo).val
      ∧ State.reset.ctc.entries[(63 : EntryNo)].owner ≠ some 0 ∧ State.reset.cc.holder ≠ some 0 := by
  decide +kernel

theorem witness_TracksAreAssignedAndReleased :
    8 ≤ (8 : Byte).toNat ∧ (7 : Byte) = octet (7 : TrackNo).val ∧ State.reset.td[(7 : TrackNo)].owner = none
      ∧ (withTrack 7 State.reset).td[(7 : TrackNo)].owner = some 0 ∧ (1 : Port) ≠ 0
      ∧ (let s := withTrack 0 (withEntry 5 window State.reset)
        s.td[(0 : TrackNo)].owner = some 0
          ∧ ∃ i : EntryNo, (s.ctc.entries[i].state = .arming ∨ s.ctc.entries[i].state = .live)
            ∧ s.ctc.entries[i].owner = some 0 ∧ s.ctc.entries[i].image.track = some 0)
      ∧ let s := withTrack 0 (withEntry 5 (inState window .held) State.reset)
        s.td[(0 : TrackNo)].owner = some 0
          ∧ ¬∃ i : EntryNo, (s.ctc.entries[i].state = .arming ∨ s.ctc.entries[i].state = .live)
            ∧ s.ctc.entries[i].owner = some 0 ∧ s.ctc.entries[i].image.track = some 0 := by
  decide +kernel

theorem witness_TracksAreSetAndDriven :
    8 ≤ (8 : Byte).toNat ∧ (7 : Byte) = octet (7 : TrackNo).val ∧ State.reset.td[(7 : TrackNo)].owner ≠ some 0
      ∧ (withTrack 7 State.reset).td[(7 : TrackNo)].owner = some 0 ∧ 2 ≤ (2 : Byte).toNat ∧ (1 : Byte).toNat < 2 := by
  decide +kernel

theorem witness_SubscriptionsAreWritten :
    4 ≤ (4 : Byte).toNat ∧ 64 ≤ (64 : Byte).toNat ∧ 2 ≤ (2 : Byte).toNat ∧ (3 : Byte) = octet (3 : SlotNo).val
      ∧ (1 : Byte).toNat < 2 ∧ (63 : Byte).toNat < 64 ∧ 512 ≤ (512 : BitVec 16).toNat ∧ 16 < (17 : Byte).toNat
      ∧ (511 : BitVec 16).toNat < 512 ∧ (16 : Byte) ≠ 0 ∧ (16 : Byte).toNat ≤ 16 := by
  decide

theorem witness_ClaimIsRequestedWithdrawnAndReleased :
    State.reset.cc.holder = none ∧ (0 : Port) ∉ State.reset.cc.waiting
      ∧ ((holding State.reset).cc.holder = some 0 ∧ (holding State.reset).cc.staged = some State.reset.cc.active)
      ∧ let s := { State.reset with cc := { State.reset.cc with
          holder := some 3, staged := some State.reset.cc.active, waiting := [1, 0, 2] } }
        s.cc.holder = some 3 ∧ (3 : Port) ≠ 0 ∧ s.cc.waiting = [1] ++ 0 :: [2] ∧ (0 : Port) ∉ ([1] : List Port)
          ∧ (0 : Port) ∉ ([2] : List Port) := by
  decide +kernel

/-- Values at the ends of a parameter's range and just beyond, an unknown id, and the greatest quota. -/
theorem witness_HolderStagesDiscardsAndSetsQuotas :
    (holding State.reset).cc.holder = some 0 ∧ (holding State.reset).cc.pendingRecord = none
      ∧ (holding State.reset).cc.staged = some State.reset.cc.active
      ∧ (committing (holding State.reset)).cc.pendingRecord ≠ none ∧ paramOf 0x01 = some .toothCount
      ∧ allowed .toothCount (240 : BitVec 24).toNat ∧ ¬allowed .toothCount (241 : BitVec 24).toNat ∧ paramOf 0x30 = none
      ∧ 4 ≤ (4 : Byte).toNat ∧ 64 < (65 : Byte).toNat ∧ (3 : Byte) = octet (3 : Port).val ∧ (64 : Byte).toNat ≤ 64 := by
  unfold allowed
  decide +kernel

theorem witness_CommitWaitsOrApplies :
    (holding State.reset).cc.holder = some 0 ∧ (holding State.reset).cc.pendingRecord = none
      ∧ (holding State.reset).cc.staged = some (holding State.reset).cc.active ∧ (holding State.reset).inFiring = false
      ∧ (committing (holding State.reset)).cc.pendingRecord ≠ none
      ∧ (let s := holding (running .locked 3 State.reset)
        s.cc.holder = some 0 ∧ s.cc.pendingRecord = none ∧ s.cc.staged = some s.cc.active ∧ s.inFiring = true)
      ∧ (∀ k ∈ [58, 59],
        let s := committing (later 40000 (running .freerun k State.reset))
        s.cc.pendingRecord = some s.cc.active ∧ s.ls.lock = .freerun ∧ s.ag.freeRunning = true
          ∧ s.cc.active.freeRunPeriod ≤ s.ag.timer ∧ ((s.ag.tooth + 1) % s.cc.active.toothCount = 0 ↔ k = 59))
      ∧ ∀ l ∈ [LockState.locked, LockState.holdover],
        let s := committing (running l 3 State.reset)
        let u := { s with ls := { s.ls with standstill := .running 2000001 }, ag := { s.ag with deadline := none } }
        u.cc.pendingRecord = some u.cc.active ∧ u.ls.standstill = .running 2000001
          ∧ u.cc.active.standstillLimit < 2000001 ∧ u.inFiring = true ∧ u.ls.lock = l ∧ u.ag.deadline = none := by
  decide +kernel

/-- A record with another tooth count, depth and standstill limit: no line's run and no gate acts; class A changes in every
state, inside and outside the firing set; and a limit that the counts exceed, without a class A change. -/
theorem witness_AppliedRecordHasItsClassEffects :
    (∀ line ∈ allLines, (State.reset.eq.line line).run = none)
      ∧ (∀ n : GateNo, State.reset.eq.active[n]
        = (State.reset.eq.gates[n].filtered == RefConfig.default.gates[n].activeHigh))
      ∧ classAChanged RefConfig.default { RefConfig.default with toothCount := 36 } = true
      ∧ classAChanged RefConfig.default { RefConfig.default with lockedDepth := 1, standstillLimit := 65536 } = false
      ∧ (∀ l ∈ [LockState.stopped, .search, .acquire, .locked, .holdover, .freerun], ∀ settle ∈ [0, 1],
        let s := running l 3 State.reset
        let u := { s with ls := { s.ls with settle := settle } }
        u.ls.lock = l ∧ (u.inFiring = true ↔ l = .holdover ∨ l = .freerun ∨ l = .locked ∧ settle = 0))
      ∧ let s := (holding (later 70000 (running .locked 3 State.reset)))
        s.cc.holder = some 0 ∧ s.pt.gap = .running 70000 ∧ 65536 < 70000 ∧ s.cc.active.standstillLimit ≠ 65536
          ∧ depthFor { RefConfig.default with lockedDepth := 1 } s.ls.lock < depthFor s.cc.active s.ls.lock := by
  decide +kernel

/-- A TOOTH run of 9 pu that width code 3 does not reach and width code 2 does. -/
theorem witness_AppliedRecord_run_acts :
    let s := { toothRun true State.reset with stamp := 1 }
    s.eq.tooth.run = some 0xFFFFF8 ∧ (s.stamp - 0xFFFFF8).toNat = 9 ∧ filterWidth 2 ≤ 9 ∧ 9 < filterWidth 3
      ∧ State.reset.cc.active.widthCode .tooth ≠ { RefConfig.default with toothWidth := 3 }.widthCode .tooth := by
  decide +kernel

theorem witness_FreerunOnEntersFreerun :
    ∀ s ∈ [holding State.reset, holding (running .locked 3 State.reset)],
      s.cc.holder = some 0 ∧ (s.ag.valid = true ∨ s.cc.pendingRecord = none) := by
  decide +kernel

/-- Outside FREERUN and in it, outside the firing set and in it, with no commit waiting and with one. -/
theorem witness_HolderLeavesRestartsAndClears :
    (∀ s ∈ [holding State.reset, holding (running .freerun 3 State.reset)],
        s.cc.holder = some 0 ∧ s.cc.pendingRecord = none ∧ (s.ls.lock = .freerun ↔ s.inFiring = true))
      ∧ ∀ l ∈ [LockState.freerun, .locked],
        let s := committing (holding (running l 3 State.reset))
        s.cc.holder = some 0 ∧ s.cc.pendingRecord = some s.cc.active ∧ s.ls.lock = l ∧ s.inFiring = true := by
  decide +kernel

/-- R125, R180: FREERUN_OFF and RESTART_REFERENCE apply a commit that waits. -/
theorem test_departures_apply_the_commit :
    ∀ i ∈ [Instr.freerunOff 0, .restartReference 0],
      (after i (inFrame 0 (committing (holding (running .freerun 3 State.reset))))).cc.pendingRecord = none := by
  decide +kernel

theorem witness_DetachGivesUpEverything :
    ClaimSound (holding State.reset) ∧ (holding State.reset).cc.holder = some 0
      ∧ (withEntry 5 note State.reset).ctc.entries[(5 : EntryNo)].owner = some 0
      ∧ (withTrack 7 State.reset).td[(7 : TrackNo)].owner = some 0 := by
  unfold ClaimSound
  decide +kernel

theorem witness_RequestBytesReadBackAndComplete :
    (WellFormed (.setQuota 3 255 255) = true ∧ encodeRequest (.setQuota 3 255 255) = some (3, [0x58, 255, 255]))
      ∧ let s := port0.modPort 0 fun q => { q with bits := List.replicate 7 false }
        WellFormed (.nop 0) = true ∧ encodeRequest (.nop 0) = some (0, [0x00]) ∧ s.resetLow = false
          ∧ s.pi[(0 : Port)].framing = .receiving ∧ s.pi[(0 : Port)].sck = false
          ∧ s.pi[(0 : Port)].bits ++ [false] = bitsOfBytes [0x00]
          ∧ List.replicate 7 false <+: bitsOfBytes [0x00] ∧ (List.replicate 7 false).length < 8 * [0x00].length := by
  decide +kernel

/-- A hub at work: LOCKED and settled, an open window of port 0 on track 0, its END due, port 1 holding the claim. -/
def busy : State :=
  let s := due .stop (withTrack 0 (withEntry 5 { window with windowOpen := true } (running .locked 12 State.reset)))
  { s with
    td := s.td.set 0 { s.td[0] with windowCount := 1 }
    cc := { s.cc with holder := some 1, staged := some s.cc.active, waiting := [2] } }

theorem witness_busy_ticket_is_due : dueEvents busy = [.ticketDue] ∧ busy.pending = [] := by decide +kernel

/-- The hub at work steps: its due ticket is the one event. -/
theorem witness_busy_steps : ∃ t, step busy = .next t := by
  refine ⟨after .ticketDue busy, ?_⟩
  unfold step ownStep
  rw [witness_busy_ticket_is_due.2, witness_busy_ticket_is_due.1]
  rfl

theorem witness_EveryStepKeepsOwnershipAndWindows : CamTableSound busy ∧ ArmedTracksOwned busy ∧ WindowsSound busy := by
  unfold CamTableSound ArmedTracksOwned WindowsSound
  decide +kernel

theorem witness_EveryStepKeepsQuietOutsideFiring : QuietOutsideFiring busy ∧ QuietOutsideFiring State.reset := by
  refine ⟨?_, quiet_reset⟩
  unfold QuietOutsideFiring
  decide +kernel

theorem witness_EveryStepKeepsTheReferenceSound :
    AngleSound busy ∧ LockSound busy ∧ ConfigurationInRange busy ∧ HistorySound busy := by
  refine ⟨?_, ?_, ?_, ?_⟩
  · unfold AngleSound
    decide +kernel
  · unfold LockSound
    decide +kernel
  · have h : inRange RefConfig.default := by
      unfold inRange
      decide
    refine ⟨h, fun c e => ?_, fun c e => ?_⟩
    · cases e
      exact h
    · cases e
  · unfold HistorySound
    decide +kernel

theorem witness_EveryStepKeepsClaimPortsAndCapacities :
    ClaimSound busy ∧ PortsSound busy ∧ MarksSound busy ∧ WithinCapacity busy ∧ HeldInReset busy
      ∧ HeldInReset (holdInReset busy) := by
  refine ⟨?_, ?_, ?_, ?_, ?_, ?_⟩
  all_goals first
    | (unfold ClaimSound; decide +kernel)
    | (unfold PortsSound; decide +kernel)
    | (unfold MarksSound; decide +kernel)
    | (unfold WithinCapacity; decide +kernel)
    | (unfold HeldInReset; decide +kernel)

end Sys2Proof.Tests
end

section
/-! PROOFS. Edge qualification (01): a raw level change, and the runs of TOOTH, INDEX and a gate input that expire
(R2 to R14, R45). -/

namespace Sys2Proof.Proofs

open Sys2Proof Sys2Proof.Machine Sys2Proof.Safety

/-! ### One line's filter changed (R2) -/

theorem setLine_line_self (line : LineId) (f : FilterLine → FilterLine) (s : State) :
    (setLine line f s).eq.line line = f (s.eq.line line) := by
  cases line with
  | tooth => rfl
  | index => rfl
  | gate n => exact vmod_self s.eq.gates n f

theorem setLine_line_ne {line other : LineId} (h : other ≠ line) (f : FilterLine → FilterLine) (s : State) :
    (setLine line f s).eq.line other = s.eq.line other := by
  cases line with
  | gate n =>
    cases other with
    | gate m => exact vmod_ne s.eq.gates n m f fun e => h (e ▸ rfl)
    | tooth => rfl
    | index => rfl
  | tooth => cases other with
    | tooth => exact absurd rfl h
    | index => rfl
    | gate m => rfl
  | index => cases other with
    | index => exact absurd rfl h
    | tooth => rfl
    | gate m => rfl

/-- A change of one line's filter is a change of the six lines and of nothing else. -/
theorem setLine_frame (line : LineId) (f : FilterLine → FilterLine) (s : State) :
    setLine line f s = { s with eq := { s.eq with
      tooth := (setLine line f s).eq.tooth
      index := (setLine line f s).eq.index
      gates := (setLine line f s).eq.gates } } := by
  cases line <;> rfl

theorem setLine_congr {line : LineId} {f g : FilterLine → FilterLine} {s : State}
    (h : f (s.eq.line line) = g (s.eq.line line)) : setLine line f s = setLine line g s := by
  cases line with
  | tooth => exact congrArg (fun l => { s with eq := { s.eq with tooth := l } }) h
  | index => exact congrArg (fun l => { s with eq := { s.eq with index := l } }) h
  | gate n => exact congrArg (fun l => { s with eq := { s.eq with gates := s.eq.gates.set n.val l } }) h

theorem setLine_setLine (line : LineId) (f g : FilterLine → FilterLine) (s : State) :
    setLine line g (setLine line f s) = setLine line (fun l => g (f l)) s := by
  cases line with
  | tooth => rfl
  | index => rfl
  | gate n => exact congrArg (fun v => { s with eq := { s.eq with gates := v } }) (vmod_vmod s.eq.gates n f g)

/-- A filtered transition forgets the filtered level and the run before it: it depends on the raw level alone. -/
theorem filteredTransition_congr (ap : State → State) {line : LineId} {s t : State}
    (h : settleLine line s = settleLine line t) : filteredTransition ap line s = filteredTransition ap line t := by
  cases line <;> simp only [filteredTransition, h]

/-! ### RUN_EXPIRY and RAW_LEVEL_CHANGE (R2) -/

theorem exec_runExpiry_of_due {line : LineId} {s : State} (h : runDue line s = true) :
    exec (.runExpiry line) s = .next (filteredTransition applyPending line s) :=
  congrArg Host.Outcome.next (if_pos h)

theorem exec_rawLevelChange_of_high {line : LineId} {level : Bool} {s : State} (h : s.resetLow = false) :
    exec (.rawLevelChange line level) s = .next (rawChange line level s) := by
  simp [exec, execRawLevelChange, h]

/-- A run that started at this moment has lasted a width of 0. -/
theorem runDue_of_width_zero {line : LineId} {s : State} {since : Stamp} (hrun : (s.eq.line line).run = some since)
    (hw : s.cc.active.widthCode line = 0) : runDue line s = true := by
  simp [runDue, hrun, hw, filterWidth]

theorem setLine_cc (line : LineId) (f : FilterLine → FilterLine) (s : State) : (setLine line f s).cc = s.cc := by
  cases line <;> rfl

/-- A change of the raw level that gives no filtered transition times or abandons a run. -/
theorem rawChange_times {line : LineId} {level : Bool} {s : State} (hraw : (s.eq.line line).raw ≠ level)
    (hw : s.cc.active.widthCode line ≠ 0 ∨ (s.eq.line line).filtered = level) :
    rawChange line level s =
      setLine line (fun l => ⟨level, l.filtered, if level = l.filtered then none else some s.stamp⟩) s := by
  unfold rawChange
  rw [if_neg hraw]
  split
  · next hzero =>
      have hfiltered : (s.eq.line line).filtered = level := hw.resolve_left (not_not_intro hzero)
      rw [if_pos hfiltered]
      exact setLine_congr (by simp [hfiltered])
  · rfl

/-- With width code 0 a change to the other level is at once a filtered transition. -/
theorem rawChange_passes {line : LineId} {level : Bool} {s : State} (hraw : (s.eq.line line).raw ≠ level)
    (hw : s.cc.active.widthCode line = 0) (hfiltered : (s.eq.line line).filtered ≠ level) :
    rawChange line level s =
      filteredTransition applyPending line (setLine line (fun l => ⟨level, l.filtered, some s.stamp⟩) s) := by
  unfold rawChange
  rw [if_neg hraw, if_pos hw, if_neg hfiltered]
  apply filteredTransition_congr
  simp only [settleLine, setLine_setLine]

/-- Settles O7, by the three branches of a raw level change. -/
theorem rawLevelChangeTimesARunOrPassesAtOnce : Obligations.RawLevelChangeTimesARunOrPassesAtOnce := by
  intro line level s high
  rw [exec_rawLevelChange_of_high high]
  refine ⟨fun hraw => ?_, fun hraw hw => ?_, fun hraw hw hfiltered => ?_⟩
  · exact congrArg Host.Outcome.next (if_pos hraw)
  · exact ⟨_, congrArg Host.Outcome.next (rawChange_times hraw hw), setLine_line_self line _ s,
      fun other hne => setLine_line_ne hne _ s, setLine_frame line _ s⟩
  · rw [rawChange_passes hraw hw hfiltered, exec_runExpiry_of_due]
    exact runDue_of_width_zero (by rw [setLine_line_self]) (by rw [setLine_cc, hw])

/-! ### TOOTH (R4, R5, R7) -/

theorem filteredTransition_tooth (ap : State → State) (s : State) :
    filteredTransition ap .tooth s =
      if s.cc.active.toothPolarity.accepts s.eq.tooth.raw = true then toothEdge ap (settleLine .tooth s)
      else settleLine .tooth s := rfl

/-- R5, R7: an edge within the blanking window is a noise edge, and reaches neither PT nor AG. -/
theorem toothEdge_of_inBlanking (ap : State → State) {s : State} (h : inBlanking s = true) :
    toothEdge ap s = noiseEdge s := if_pos h

/-- Settles O8: the polarity rejects the transition, or the blanking window makes the edge a noise edge. -/
theorem toothRunExpiryThatIsNoRealEdge : Obligations.ToothRunExpiryThatIsNoRealEdge := by
  intro s hdue
  rw [exec_runExpiry_of_due hdue, filteredTransition_tooth]
  constructor
  · intro rejected
    rw [if_neg (by simp [rejected])]
    rfl
  · intro accepted blanked
    have blankedStill : inBlanking (settleLine .tooth s) = true := blanked
    rw [if_pos accepted, toothEdge_of_inBlanking applyPending blankedStill]
    rfl

/-! ### INDEX (R4, R9, R45) -/

theorem filteredTransition_index (ap : State → State) (s : State) :
    filteredTransition ap .index s =
      if s.cc.active.indexPolarity.accepts s.eq.index.raw = true then indexArrival (settleLine .index s)
      else settleLine .index s := rfl

/-- R45: what an index arrival does, by lock state and index-pending. -/
theorem indexArrival_eq (s : State) :
    indexArrival s =
      if s.ls.lock = .stopped ∨ s.ls.lock = .freerun then s
      else if s.ag.indexPending = true then
        { s with ag := { s.ag with indexNoise := min (s.ag.indexNoise + 1) 65535 } }
      else { s with ag := { s.ag with indexPending := true } } := by
  unfold indexArrival
  cases h : s.ls.lock <;> simp [indexArrival.arrive, satInc16, satInc]

/-- Settles O9: the polarity rejects the transition, or the edge is an index arrival. -/
theorem indexRunExpiryIsAnIndexArrival : Obligations.IndexRunExpiryIsAnIndexArrival := by
  intro s hdue
  rw [exec_runExpiry_of_due hdue, filteredTransition_index]
  refine ⟨settleLine .index s, rfl, fun rejected => ?_, fun accepted => ?_⟩
  · rw [if_neg (by simp [rejected])]
  · rw [if_pos accepted, indexArrival_eq]
    rfl

/-! ### Gate inputs (R10 to R12, R14) -/

/-- R11, R12, R14: a change of the active state sets the latches and posts an INPUT event where it is enabled. -/
theorem gateChanged_eq (n : GateNo) (s : State) :
    gateChanged n s =
      let t : State := { s with eq := { s.eq with
        latches := Vector.ofFn fun p : Port => s.eq.latches[p].set n.val ⟨true, false⟩ } }
      if s.cc.active.gates[n].event.admits s.eq.active[n] = true then post (inputEvent n s) t else t := rfl

/-- R10: the settled level is judged against the active state held so far. -/
theorem filteredTransition_gate (ap : State → State) (n : GateNo) (s : State) :
    filteredTransition ap (.gate n) s =
      let t := settleLine (.gate n) s
      if gateActiveNow t n = s.eq.active[n] then t
      else gateChanged n { t with eq := { t.eq with active := vmod s.eq.active n fun _ => gateActiveNow t n } } := rfl

/-- R10: the active state that the raw level gives once it has passed the filter. -/
theorem gateActiveNow_settled (n : GateNo) (s : State) :
    gateActiveNow (settleLine (.gate n) s) n = (s.eq.gates[n].raw == s.cc.active.gates[n].activeHigh) := by
  show ((vmod s.eq.gates n _)[n].filtered == _) = _
  rw [vmod_self]
  rfl

/-- Settles O10: the active state stays, or it changes and the latches and the event follow. -/
theorem gateRunExpiryLatchesAndPostsTheChange : Obligations.GateRunExpiryLatchesAndPostsTheChange := by
  intro n s hdue
  rw [exec_runExpiry_of_due hdue]
  have now := gateActiveNow_settled n s
  refine ⟨gateActiveNow (settleLine (.gate n) s) n, now, settleLine (.gate n) s, rfl, fun same => ?_, fun differs => ?_⟩
  · rw [filteredTransition_gate, if_pos same]
  · refine ⟨_, rfl, ?_⟩
    rw [filteredTransition_gate, if_neg differs, gateChanged_eq]
    simp only [inputEvent, vmod_self]
    rfl

end Sys2Proof.Proofs
end

section
/-! PROOFS. What the hub does on an empty queue (log entries 2, 3 and 9), and which timed events are due (R2, R18, R58,
R41, R51, R114, R141). -/

namespace Sys2Proof.Proofs

open Sys2Proof Sys2Proof.Machine Sys2Proof.Safety

/-! ### When each timed event is due -/

theorem runDue_iff (line : LineId) (s : State) :
    runDue line s = true ↔
      ∃ since, (s.eq.line line).run = some since
        ∧ filterWidth (s.cc.active.widthCode line) ≤ (s.stamp - since).toNat := by
  unfold runDue
  cases (s.eq.line line).run with
  | none => simp
  | some since =>
      simp only [decide_eq_true_eq, Option.some.injEq, exists_eq_left']
      rfl

theorem timer_due_iff (limit : Nat) (t : Timer) : t.due limit = true ↔ ∃ n, t = .running n ∧ limit < n := by
  cases t <;> simp [Timer.due]

theorem gapDue_iff (s : State) :
    gapDue s = true ↔ ∃ n, s.pt.gap = .running n ∧ s.cc.active.standstillLimit < n := timer_due_iff _ _

theorem standstillDue_iff (s : State) :
    standstillDue s = true ↔ ∃ n, s.ls.standstill = .running n ∧ s.cc.active.standstillLimit < n := timer_due_iff _ _

theorem missDue_iff (s : State) : missDue s = true ↔ ∃ d, s.ag.deadline = some d ∧ d ≤ s.ag.timer := by
  unfold missDue
  cases s.ag.deadline <;> simp

theorem freeStepDue_iff (s : State) :
    freeStepDue s = true ↔
      s.ls.lock = .freerun ∧ s.ag.freeRunning = true ∧ s.cc.active.freeRunPeriod ≤ s.ag.timer := by
  simp [freeStepDue, and_assoc]

theorem ticketIsDue_iff (s : State) :
    ticketIsDue s = true ↔ ∃ tk rest, s.fs.tickets = tk :: rest ∧ tk.due = s.stamp := by
  unfold ticketIsDue
  cases s.fs.tickets <;> simp

theorem mem_allLines (line : LineId) : line ∈ allLines := by
  cases line with
  | tooth => decide
  | index => decide
  | gate n => revert n; decide

/-! ### The list of due events -/

/-- An event that is listed where its condition holds. -/
theorem mem_singletonIf {α : Type} {c a : α} {b : Bool} : (c ∈ if b = true then [a] else []) ↔ c = a ∧ b = true := by
  cases b <;> simp

theorem mem_dueRuns {c : Instr} {s : State} :
    c ∈ (allLines.filter fun l => runDue l s).map Instr.runExpiry ↔ ∃ line, c = .runExpiry line ∧ runDue line s = true := by
  simp only [List.mem_map, List.mem_filter, mem_allLines, true_and]
  exact exists_congr fun line => ⟨fun ⟨hdue, hc⟩ => ⟨hc.symm, hdue⟩, fun ⟨hc, hdue⟩ => ⟨hdue, hc.symm⟩⟩

theorem mem_duePulses {c : Instr} {s : State} :
    c ∈ ((List.finRange 8).filter fun k => s.td[k].pulse == some 0).map Instr.pulseEnd ↔
      ∃ k : TrackNo, c = .pulseEnd k ∧ s.td[k].pulse = some 0 := by
  simp only [List.mem_map, List.mem_filter, List.mem_finRange, true_and, beq_iff_eq]
  exact exists_congr fun k => ⟨fun ⟨hdue, hc⟩ => ⟨hc.symm, hdue⟩, fun ⟨hc, hdue⟩ => ⟨hdue, hc.symm⟩⟩

theorem mem_dueEvents {c : Instr} {s : State} :
    c ∈ dueEvents s ↔
      (∃ line, c = .runExpiry line ∧ runDue line s = true)
        ∨ (c = .gapCountExpiry ∧ gapDue s = true) ∨ (c = .standstillExpiry ∧ standstillDue s = true)
        ∨ (c = .missDeadlineExpiry ∧ missDue s = true) ∨ (c = .freeStep ∧ freeStepDue s = true)
        ∨ (c = .ticketDue ∧ ticketIsDue s = true) ∨ ∃ k : TrackNo, c = .pulseEnd k ∧ s.td[k].pulse = some 0 := by
  simp only [dueEvents, List.mem_append, mem_dueRuns, mem_singletonIf, mem_duePulses, or_assoc]

/-! ### A step on an empty queue -/

theorem step_of_pending_nil {s : State} (h : s.pending = []) : step s = ownStep s := by
  simp only [step, h]

theorem ownStep_of_nothing_due {s : State} (h : dueEvents s = []) : ownStep s = .next (tick s) := by
  simp only [ownStep, h]

theorem ownStep_of_one_due {s : State} {c : Instr} (h : dueEvents s = [c]) : ownStep s = exec c s := by
  simp only [ownStep, h]

theorem chooseDue_mem (count : Nat) (c : Instr) (rest : List Instr) : chooseDue count c rest ∈ c :: rest := by
  have inside : Config.freePick count % (c :: rest).length < (c :: rest).length := Nat.mod_lt _ (Nat.succ_pos _)
  unfold chooseDue
  rw [List.getElem?_eq_getElem inside, Option.getD_some]
  exact List.getElem_mem inside

theorem ownStep_of_several_due {s : State} (h : 2 ≤ (dueEvents s).length) :
    ∃ c ∈ dueEvents s, ownStep s = exec c { s with freeCount := s.freeCount + 1 } := by
  match hd : dueEvents s with
  | [] => simp [hd] at h
  | [c] => simp [hd] at h
  | c :: d :: rest =>
      refine ⟨_, chooseDue_mem s.freeCount c (d :: rest), ?_⟩
      simp only [ownStep, hd]

/-- One pu passes (R1, R18, R58, R141). -/
theorem tick_of_high {s : State} (h : s.resetLow = false) :
    tick s = { s with
      stamp := s.stamp + 1
      pt := { s.pt with gap := s.pt.gap.tick }
      ls := { s.ls with standstill := s.ls.standstill.tick }
      ag := { s.ag with timer := min (s.ag.timer + 1) 16777215 }
      td := Vector.ofFn fun k => { s.td[k] with pulse := s.td[k].pulse.map fun n => n - 1 } } := by
  simp only [tick, h]
  rfl

/-- A port's reset value, put in place of what the reset held, moves CPpSDO alone (R195). -/
theorem endReset_holdInReset_pi (s : State) :
    (endReset (holdInReset s)).pi = Vector.ofFn fun p => { (holdInReset s).pi[p] with
      sdo := if (holdInReset s).pi[p].framing = .idle then none else some true } := by
  ext1 i hi
  simp only [endReset_eq, holdInReset_pi, vall_getElem, Vector.getElem_ofFn, Fin.getElem_fin]
  cases h : s.pi[i].selected <;> rfl

/-- The end of device reset moves RESET_n and CPpSDO alone (R195; log entry 9). -/
theorem tick_of_held {s : State} (low : s.resetLow = true) (held : HeldInReset s) :
    tick s = { s with
      resetLow := false
      pi := Vector.ofFn fun p => { s.pi[p] with sdo := if s.pi[p].framing = .idle then none else some true } } := by
  have fixed : holdInReset s = s := (held low).symm
  have ports := endReset_holdInReset_pi s
  rw [fixed] at ports
  have ended : endReset s = { holdInReset s with resetLow := false, pi := (endReset s).pi } := rfl
  rw [show tick s = endReset s from if_pos low, ended, ports, fixed]

/-- Settles O2, by the number of events that are due. -/
theorem emptyQueueTakesDueEventOrOnePu : Obligations.EmptyQueueTakesDueEventOrOnePu := by
  refine fun s => ⟨fun empty => ⟨fun none high => ?_, fun none low held => ?_, fun c one => ?_, fun several => ?_⟩, fun c => ?_⟩
  · rw [step_of_pending_nil empty, ownStep_of_nothing_due none, tick_of_high high]
  · rw [step_of_pending_nil empty, ownStep_of_nothing_due none, tick_of_held low held]
  · rw [step_of_pending_nil empty, ownStep_of_one_due one]
  · rw [step_of_pending_nil empty]
    exact ownStep_of_several_due several
  · simp only [mem_dueEvents, runDue_iff, gapDue_iff, standstillDue_iff, missDue_iff, freeStepDue_iff, ticketIsDue_iff,
      exists_and_left]

end Sys2Proof.Proofs
end

section
/-! PROOFS. Device reset: what every block of the reference path, the claim, delivery and the ports hold from the fall of
RESET_n to its rise and after it (R15, R32, R54, R79, R166, R184, R195). -/

namespace Sys2Proof.Proofs

open Sys2Proof Sys2Proof.Machine Sys2Proof.Safety

/-- A port as device reset leaves it: CPpSDO is at high impedance while RESET_n is low (R195). -/
def portAfterReset (low : Bool) (q : PortInterface) : PortInterface :=
  if low = true then { PortInterface.reset q.selected q.sck with sdo := none } else PortInterface.reset q.selected q.sck

theorem portAfterReset_bits (low : Bool) (q : PortInterface) : (portAfterReset low q).bits = [] := by
  cases low <;> rfl

theorem portAfterReset_response (low : Bool) (q : PortInterface) : (portAfterReset low q).response = [] := by
  cases low <;> rfl

theorem portAfterReset_frameErrors (low : Bool) (q : PortInterface) : (portAfterReset low q).frameErrors = 0 := by
  cases low <;> rfl

theorem portAfterReset_of_idle (low : Bool) {q : PortInterface} (h : q.framing = .idle) :
    (portAfterReset low q).framing = .idle ∧ (portAfterReset low q).sdo = none := by
  cases low <;> simp [portAfterReset, PortInterface.reset, PortInterface.selected, h]

theorem portAfterReset_of_selected (low : Bool) {q : PortInterface} (h : q.framing ≠ .idle) :
    (portAfterReset low q).framing = .discarding
      ∧ (portAfterReset low q).sdo = if low = true then none else some true := by
  cases low <;> simp [portAfterReset, PortInterface.reset, PortInterface.selected, h]

/-- State t holds the reset values for the pin levels of s in every block that O5 speaks of. -/
structure ResetFrom (s t : State) : Prop where
  eq : t.eq = EdgeQualifier.reset s.eq.tooth.raw s.eq.index.raw (vall s.eq.gates FilterLine.raw)
  pt : t.pt = PeriodTracker.reset
  ag : t.ag = AngleGenerator.reset
  ls : t.ls = LockSupervisor.reset
  cc : t.cc = ClaimController.reset
  er : ∀ p : Port, t.er[p] = EventPort.default
  pi : ∀ p : Port, t.pi[p] = portAfterReset t.resetLow s.pi[p]

/-- The state held in reset is a reset state. -/
theorem resetFrom_holdInReset (s : State) : ResetFrom s (holdInReset s) where
  eq := rfl
  pt := rfl
  ag := rfl
  ls := rfl
  cc := rfl
  er p := by simp
  pi p := by simp [portAfterReset]

/-- The end of device reset leaves a reset state, whatever waits on the queue. -/
theorem resetFrom_endReset (s : State) (queue : List Instr) : ResetFrom s (endReset { s with pending := queue }) where
  eq := rfl
  pt := rfl
  ag := rfl
  ls := rfl
  cc := rfl
  er p := (resetFrom_holdInReset s).er p
  pi p := by simp [portAfterReset, endReset_eq]

/-- A device reset that ends is the same whether the hub was held in it before or not. -/
theorem endReset_holdInReset (s : State) : endReset (holdInReset s) = endReset s := by
  have ports : (endReset (holdInReset s)).pi = (endReset s).pi := by
    ext1 i hi
    simp only [endReset_eq, holdInReset_pi, vall_getElem]
    cases h : s.pi[i].selected <;> rfl
  rw [endReset_eq, endReset_eq, holdInReset_holdInReset]
  exact congrArg (fun v => { holdInReset s with resetLow := false, pi := v }) ports

/-- The step that finds no command waiting ends the reset that DEVICE_RESET began. -/
theorem step_of_held (s : State) :
    step { holdInReset s with pending := [] } = .next (endReset { s with pending := [] }) := by
  rw [← endReset_holdInReset]
  exact step_holdInReset { s with pending := [] } rfl

namespace ResetFrom

variable {s t : State}

theorem line_gate (h : ResetFrom s t) (n : GateNo) :
    t.eq.gates[n] = ⟨s.eq.gates[n].raw, s.eq.gates[n].raw, none⟩ ∧ t.eq.active[n] = s.eq.gates[n].raw := by
  simp [h.eq, EdgeQualifier.reset, RefConfig.default]

theorem latch (h : ResetFrom s t) (p : Port) (n : GateNo) : t.eq.latches[p][n] = ⟨false, false⟩ := by
  simp [h.eq, EdgeQualifier.reset]

theorem stepSeen (h : ResetFrom s t) (p : Port) : t.pt.stepSeen[p] = ⟨false, false⟩ := by
  simp [h.pt, PeriodTracker.reset]

theorem estimate (h : ResetFrom s t) : t.estimate = none := by
  rw [State.estimate, h.pt]
  rfl

theorem depth (h : ResetFrom s t) : t.depth = 1 := by
  rw [State.depth, h.cc, h.ls]
  rfl

theorem angle (h : ResetFrom s t) : t.angle = none := by
  rw [State.angle, h.ag]
  rfl

theorem inFiring (h : ResetFrom s t) : t.inFiring = false := by
  rw [State.inFiring, h.ls]
  rfl

theorem lockMark (h : ResetFrom s t) (p : Port) : t.ls.lockMarks[p] = false := by
  simp [h.ls, LockSupervisor.reset]

theorem claimMark (h : ResetFrom s t) (p : Port) : t.cc.claimMarks[p] = false := by
  simp [h.cc, ClaimController.reset]

theorem slot (h : ResetFrom s t) (p : Port) (n : SlotNo) :
    t.er[p].slots[n] = ⟨false, 0, 0xFF, 0, false, false⟩ ∧ t.er[p].latest[n] = ⟨none, false, false, false⟩ := by
  rw [h.er p]
  simp [EventPort.default, Slot.default, LatestRegister.empty]

/-- R161: no cause is pending, since every latch and fresh bit is clear and the watermark is above an empty queue. -/
theorem causes (h : ResetFrom s t) (p : Port) : t.causes p = 0 := by
  have input : t.inputCause p = false := by simp only [State.inputCause]; simp [h.eq, EdgeQualifier.reset]
  rw [State.causes, h.er p, input]
  decide

theorem attentionLow (h : ResetFrom s t) (p : Port) : t.attentionLow p = false := by
  simp [State.attentionLow, State.effectiveCauses, h.causes p]

/-- R190: no block holds a read mark. -/
theorem not_marked (h : ResetFrom s t) (p : Port) : marked t p = false := by
  simp only [marked, h.latch, h.stepSeen, h.lockMark, h.claimMark, h.er p]
  rfl

theorem configuration (h : ResetFrom s t) :
    t.cc.active = ⟨60, .rising, 2, .rising, 2, 32, 8, 2, 60, 1, 4, .eighth, 2, 1, 2, 3, 1, 2000000, 40000,
      #v[⟨true, 2, .never, 0xF0⟩, ⟨true, 2, .never, 0xF1⟩, ⟨true, 2, .never, 0xF2⟩, ⟨true, 2, .never, 0xF3⟩]⟩ := by
  rw [h.cc]
  decide

/-- R166, R195: delivery and the Port Interface of one port. -/
theorem port (h : ResetFrom s t) (p : Port) :
    t.er[p].portMask = 0xFF ∧ t.er[p].queue = [] ∧ t.er[p].lost = 0 ∧ t.er[p].watermark = 1 ∧ t.er[p].attnMask = 0
      ∧ (∀ n : SlotNo, t.er[p].slots[n] = ⟨false, 0, 0xFF, 0, false, false⟩
          ∧ t.er[p].latest[n] = ⟨none, false, false, false⟩)
      ∧ t.causes p = 0 ∧ t.attentionLow p = false ∧ marked t p = false
      ∧ t.pi[p].frameErrors = 0 ∧ t.pi[p].bits = [] ∧ t.pi[p].response = []
      ∧ (s.pi[p].framing = .idle → t.pi[p].framing = .idle ∧ t.pi[p].sdo = none)
      ∧ (s.pi[p].framing ≠ .idle →
          t.pi[p].framing = .discarding ∧ t.pi[p].sdo = if t.resetLow = true then none else some true) := by
  refine ⟨congrArg (·.portMask) (h.er p), congrArg (·.queue) (h.er p), congrArg (·.lost) (h.er p),
    congrArg (·.watermark) (h.er p), congrArg (·.attnMask) (h.er p), h.slot p, h.causes p, h.attentionLow p,
    h.not_marked p, ?_⟩
  rw [h.pi p]
  exact ⟨portAfterReset_frameErrors _ _, portAfterReset_bits _ _, portAfterReset_response _ _,
    portAfterReset_of_idle _, portAfterReset_of_selected _⟩

end ResetFrom

/-- Settles O5: the state held in reset and the state after its end are both reset states for the levels of the pins. -/
theorem deviceResetStartsReferenceAndPortsAfresh : Obligations.DeviceResetStartsReferenceAndPortsAfresh := by
  intro s
  refine ⟨holdInReset s, endReset { s with pending := [] }, rfl, step_of_held s, fun t ht => ?_⟩
  have h : ResetFrom s t := by
    rcases List.mem_pair.1 ht with rfl | rfl
    · exact resetFrom_holdInReset s
    · exact resetFrom_endReset s []
  exact ⟨congrArg (·.tooth) h.eq, congrArg (·.index) h.eq, h.line_gate, h.latch, congrArg (·.window) h.eq,
    congrArg (·.cycleNoise) h.eq, congrArg (·.totalNoise) h.eq,
    congrArg (·.history) h.pt, h.estimate, congrArg (·.lastEdge) h.pt, congrArg (·.gap) h.pt,
    congrArg (·.speedSteps) h.pt, h.stepSeen, h.depth,
    h.ag, h.angle,
    congrArg (·.lock) h.ls, h.inFiring, congrArg (·.settle) h.ls, congrArg (·.clean) h.ls, congrArg (·.noisy) h.ls,
    congrArg (·.indexMiss) h.ls, congrArg (·.holdover) h.ls, congrArg (·.synthInCycle) h.ls,
    congrArg (·.closingNoise) h.ls, congrArg (·.standstill) h.ls, congrArg (·.indexErrors) h.ls, h.lockMark,
    congrArg (·.holder) h.cc, congrArg (·.waiting) h.cc, congrArg (·.staged) h.cc, congrArg (·.pendingRecord) h.cc,
    h.claimMark, h.configuration, h.port⟩

end Sys2Proof.Proofs
end

section
/-! PROOFS. READ_INPUTS, READ_STATUS and READ_CLAIM (R14, R29, R76, R77, R172): the bytes of a response in the words of the
statements (R196, R197, R200), and the marks. -/

namespace Sys2Proof.Proofs

open Sys2Proof Sys2Proof.Machine Sys2Proof.Safety

/-! ### Response bytes (R196) -/

theorem byteOf_eq_octet (n : Nat) : byteOf n = octet n := rfl

theorem octet_congr {m n : Nat} (h : m % 256 = n % 256) : octet m = octet n :=
  BitVec.eq_of_toNat_eq (by simpa [octet] using h)

/-- Eight bits of a word from bit i on are the byte of its quotient by 2 to the power i. -/
theorem extractByte_eq_octet {k : Nat} (w : BitVec k) (i : Nat) : w.extractLsb' i 8 = octet (w.toNat / 2 ^ i) :=
  BitVec.eq_of_toNat_eq (by simp [octet, Nat.shiftRight_eq_div_pow])

theorem bytesOf16_eq_octets2 (w : BitVec 16) : bytesOf16 w = octets2 w.toNat := by
  simp only [bytesOf16, octets2, extractByte_eq_octet, Nat.reducePow, Nat.div_one]

theorem bytesOf24_eq_octets3 (w : BitVec 24) : bytesOf24 w = octets3 w.toNat := by
  simp only [bytesOf24, octets3, extractByte_eq_octet, Nat.reducePow, Nat.div_one]

theorem be16_eq_octets2 (n : Nat) : be16 n = octets2 n := by
  have hi : octet (n % 65536 / 256) = octet (n / 256) := octet_congr (by omega)
  have lo : octet (n % 65536) = octet n := octet_congr (by omega)
  rw [be16, bytesOf16_eq_octets2, BitVec.toNat_ofNat]
  simp only [octets2, Nat.reducePow, hi, lo]

theorem be24_eq_octets3 (n : Nat) : be24 n = octets3 n := by
  have hi : octet (n % 16777216 / 65536) = octet (n / 65536) := octet_congr (by omega)
  have mid : octet (n % 16777216 / 256) = octet (n / 256) := octet_congr (by omega)
  have lo : octet (n % 16777216) = octet n := octet_congr (by omega)
  rw [be24, bytesOf24_eq_octets3, BitVec.toNat_ofNat]
  simp only [octets3, Nat.reducePow, hi, mid, lo]

theorem flagByte_eq_octet (bits : List Bool) : flagByte bits = octet (bitsValue bits) := by
  have value : bits.foldr (fun b n => b.toNat + 2 * n) 0 = bitsValue bits := by
    induction bits with
    | nil => rfl
    | cons b rest ih => rw [List.foldr_cons, ih, bitsValue]
  rw [flagByte, value, octet]

theorem optByte_eq_octetOr {n : Nat} (x : Option (Fin n)) : optByte x = octetOr x := by
  cases x <;> rfl

theorem angleBytes_eq_angleOctets (a : Option Nat) : angleBytes a = angleOctets a := by
  cases a with
  | none => rfl
  | some angle => exact be16_eq_octets2 angle

/-! ### READ_INPUTS (R14, R197) -/

theorem readInputs_answers (p : Port) (s : State) :
    Answers (.readInputs p) p [0x11] (0x00 :: inputsWire p s) s (actReadInputs p s).1 :=
  answers_of (act := actReadInputs p) rfl rfl rfl rfl

theorem inputsWire_eq (p : Port) (s : State) :
    inputsWire p s =
      [octet (bitsValue [s.eq.tooth.filtered, s.eq.index.filtered, s.eq.gates[0].filtered, s.eq.gates[1].filtered,
          s.eq.gates[2].filtered, s.eq.gates[3].filtered]),
        octet (bitsValue [s.eq.active[0], s.eq.active[1], s.eq.active[2], s.eq.active[3]]),
        octet (bitsValue [s.eq.latches[p][0].value, s.eq.latches[p][1].value, s.eq.latches[p][2].value,
          s.eq.latches[p][3].value])] := by
  simp only [inputsWire, flagByte_eq_octet]

/-! ### READ_STATUS (R77, R200) -/

theorem readStatus_answers (p : Port) (s : State) :
    Answers (.readStatus p) p [0x10] (0x00 :: statusWire p s) s (actReadStatus p s).1 :=
  answers_of (act := actReadStatus p) rfl rfl rfl rfl

theorem lockCode_eq (l : LockState) :
    l.code = match l with
      | .stopped => 0 | .search => 1 | .acquire => 2 | .locked => 3 | .holdover => 4 | .freerun => 5 := by
  cases l <;> rfl

/-- Log entry 12: an expired timer is present. -/
theorem timer_present_eq (t : Timer) : t.present = (t != .absent) := by
  cases t <;> rfl

/-- Log entry 13: a running timer shows the limit at most. -/
theorem timer_reported_eq (limit : Nat) (t : Timer) :
    t.reported limit = match t with | .running n => min n limit | _ => 0 := by
  cases t <;> rfl

theorem toothByte_eq (s : State) : toothByte s = if s.ag.valid = true then octet s.ag.tooth else 0xFF := rfl

/-! ### READ_CLAIM (R172, R197) -/

theorem readClaim_answers (p : Port) (s : State) :
    Answers (.readClaim p) p [0x53] (0x00 :: s.cc.wire p) s (actReadClaim p s).1 :=
  answers_of (act := actReadClaim p) rfl rfl rfl rfl

theorem position_eq_zero_iff (c : ClaimController) (p : Port) : c.position p = 0 ↔ p ∉ c.waiting := by
  unfold ClaimController.position
  cases h : c.waiting.findIdx? (· == p) with
  | none =>
      have absent : p ∉ c.waiting := fun hmem => by simpa using List.findIdx?_eq_none_iff.1 h p hmem
      simp [absent]
  | some i =>
      obtain ⟨hi, hp, -⟩ := List.findIdx?_eq_some_iff_getElem.1 h
      have waits : p ∈ c.waiting := (beq_iff_eq.1 hp) ▸ List.getElem_mem hi
      simp [waits]

/-- R168: the position of a waiting port is that of its first place on the list. -/
theorem place_of_position {c : ClaimController} {p : Port} {n : Nat} (h : c.position p = n + 1) :
    c.waiting[n]? = some p ∧ p ∉ c.waiting.take n := by
  unfold ClaimController.position at h
  split at h
  · cases h
  · next i hi =>
      obtain rfl : i = n := Nat.succ.inj h
      obtain ⟨hlt, hp, before⟩ := List.findIdx?_eq_some_iff_getElem.1 hi
      refine ⟨by rw [List.getElem?_eq_getElem hlt, beq_iff_eq.1 hp], fun hmem => ?_⟩
      obtain ⟨j, hj, he⟩ := List.mem_take_iff_getElem.1 hmem
      exact before j (by omega) (beq_iff_eq.2 he)

theorem claimWire_eq (c : ClaimController) (p : Port) :
    c.wire p =
      [octetOr c.holder, octet c.waiting.length, octetOr c.waiting[0]?, octetOr c.waiting[1]?, octetOr c.waiting[2]?,
        octet (bitsValue [c.holder == some p, c.pendingRecord.isSome]), octet (c.position p)] := by
  simp only [ClaimController.wire, ClaimController.waiterByte, optByte_eq_octetOr, flagByte_eq_octet, byteOf_eq_octet]

/-- Settles O37: each request answers by its act, whose bytes are those of the layout. -/
theorem statusReadsMarkWhatTheyReport : Obligations.StatusReadsMarkWhatTheyReport := by
  refine fun p s => ⟨?_, ?_, s.cc.position p, position_eq_zero_iff s.cc p, fun n => place_of_position, ?_⟩
  · have answers := readInputs_answers p s
    rw [inputsWire_eq] at answers
    exact answers
  · have answers := readStatus_answers p s
    simp only [statusWire, lockCode_eq, timer_present_eq, timer_reported_eq, toothByte_eq, flagByte_eq_octet,
      byteOf_eq_octet, be16_eq_octets2, be24_eq_octets3, bytesOf16_eq_octets2, angleBytes_eq_angleOctets] at answers
    exact answers
  · have answers := readClaim_answers p s
    rw [claimWire_eq] at answers
    exact answers

end Sys2Proof.Proofs
end

section
/-! PROOFS. Period measurement (02): what the Period Tracker does with the interval that a real edge ends (R17, R19 to R21),
and the events at which the gap count and a pulse run out (R18, R141). -/

namespace Sys2Proof.Proofs

open Sys2Proof Sys2Proof.Machine Sys2Proof.Safety

/-! ### A closed interval (R19, R20) -/

theorem takeInterval_of_speedStep {n : Nat} {s : State} (h : isSpeedStep s.cc.active s.estimate n = true) :
    takeInterval n s = { s with pt := { s.pt with
      history := [n]
      speedSteps := min (s.pt.speedSteps + 1) 65535
      stepSeen := Vector.replicate 4 ⟨true, false⟩ } } := if_pos h

theorem newest_append_singleton (depth n : Nat) (history : List Nat) :
    newest depth (history ++ [n]) = (history ++ [n]).drop (history.length + 1 - depth) := by
  rw [newest, List.length_append, List.length_singleton]

theorem takeInterval_of_no_speedStep {n : Nat} {s : State} (h : isSpeedStep s.cc.active s.estimate n = false) :
    takeInterval n s = { s with pt := { s.pt with
      history := (s.pt.history ++ [n]).drop (s.pt.history.length + 1 - s.depth) } } := by
  rw [takeInterval, if_neg (by simp [h]), newest_append_singleton]

theorem closeInterval_of_pos {n : Nat} {s : State} (h : 0 < n) : closeInterval n s = takeInterval n s :=
  if_neg (Nat.ne_of_gt h)

/-! ### The table of R17 -/

theorem timer_over_iff (limit : Nat) (t : Timer) :
    t.over limit = true ↔ t = .expired ∨ ∃ n, t = .running n ∧ limit < n := by
  cases t <;> simp [Timer.over]

theorem timer_over_running {limit n : Nat} (h : n ≤ limit) : (Timer.running n).over limit = false :=
  decide_eq_false (Nat.not_lt.2 h)

theorem measureEdge_of_first {s : State} (h : s.pt.lastEdge = none) : measureEdge s = s := by
  simp only [measureEdge, h]

theorem measureEdge_of_over {s : State} {e : Stamp} (hlast : s.pt.lastEdge = some e)
    (hover : s.pt.gap.over s.cc.active.standstillLimit = true) : measureEdge s = flushHistory s := by
  simp only [measureEdge, hlast, hover, if_true]

theorem measureEdge_of_synth {s : State} {e : Stamp} (hlast : s.pt.lastEdge = some e)
    (hover : s.pt.gap.over s.cc.active.standstillLimit = false) (hsynth : s.ag.synthSinceReal = true) :
    measureEdge s = s := by
  simp only [measureEdge, hlast, hover, hsynth, if_true, Bool.false_eq_true, if_false]

theorem measureEdge_of_real {s : State} {e : Stamp} {n : Nat} (hlast : s.pt.lastEdge = some e)
    (hgap : s.pt.gap = .running n) (hover : s.pt.gap.over s.cc.active.standstillLimit = false)
    (hsynth : s.ag.synthSinceReal = false) : measureEdge s = closeInterval n s := by
  rw [hgap] at hover
  simp only [measureEdge, hlast, hgap, hover, hsynth, Bool.false_eq_true, if_false]

/-- R17: whatever the interval did to the history, this edge is the last one, and the gap count starts again. -/
theorem trackEdge_of_measureEdge {s t : State} (h : measureEdge s = t) :
    trackEdge s = { t with pt := { t.pt with lastEdge := some t.stamp, gap := .running 0 } } := by
  rw [trackEdge, h]

/-- Settles O11, by the rows of the table of R17, and for a closed interval by the test of R20. -/
theorem realEdgeIsMeasured : Obligations.RealEdgeIsMeasured := by
  refine fun s => ⟨fun first => ?_, fun e hlast hexpired => ?_, fun e n hlast hgap hlimit => ?_⟩
  · exact trackEdge_of_measureEdge (measureEdge_of_first first)
  · exact trackEdge_of_measureEdge (measureEdge_of_over hlast ((timer_over_iff _ _).2 hexpired))
  · have within : s.pt.gap.over s.cc.active.standstillLimit = false := hgap ▸ timer_over_running hlimit
    have closes (real : s.ag.synthSinceReal = false) (pos : 0 < n) : measureEdge s = takeInterval n s :=
      (measureEdge_of_real hlast hgap within real).trans (closeInterval_of_pos pos)
    refine ⟨fun synth => ?_, fun real pos jump => ?_, fun real pos steady => ?_⟩
    · exact trackEdge_of_measureEdge (measureEdge_of_synth hlast within synth)
    · exact trackEdge_of_measureEdge ((closes real pos).trans (takeInterval_of_speedStep jump))
    · exact trackEdge_of_measureEdge ((closes real pos).trans (takeInterval_of_no_speedStep steady))

/-! ### GAP_COUNT_EXPIRY (R18) and PULSE_END (R141) -/

theorem exec_gapCountExpiry_of_due {s : State} (h : gapDue s = true) :
    exec .gapCountExpiry s = .next { s with pt := { s.pt with gap := .expired } } :=
  congrArg Host.Outcome.next (if_pos h)

theorem exec_gapCountExpiry_of_not_due {s : State} (h : ¬gapDue s = true) : exec .gapCountExpiry s = .next s :=
  congrArg Host.Outcome.next (if_neg h)

theorem gapDue_running_iff {n : Nat} {s : State} (h : s.pt.gap = .running n) :
    gapDue s = true ↔ s.cc.active.standstillLimit < n := by
  simp [gapDue_iff, h]

theorem exec_pulseEnd_of_run_out {k : TrackNo} {s : State} (h : s.td[k].pulse = some 0) :
    exec (.pulseEnd k) s = .next { s with td := s.td.set k.val { s.td[k] with pulse := none } } :=
  congrArg Host.Outcome.next (if_pos h)

theorem exec_pulseEnd_of_not_run_out {k : TrackNo} {s : State} (h : s.td[k].pulse ≠ some 0) :
    exec (.pulseEnd k) s = .next s :=
  congrArg Host.Outcome.next (if_neg h)

/-- Settles O16: each event acts exactly where its count has run out. -/
theorem runOutCountsAndPulsesEnd : Obligations.RunOutCountsAndPulsesEnd := by
  refine fun n k s => ⟨fun hgap exceeded => ?_, fun hgap within => ?_, exec_pulseEnd_of_run_out,
    exec_pulseEnd_of_not_run_out⟩
  · exact exec_gapCountExpiry_of_due ((gapDue_running_iff hgap).2 exceeded)
  · exact exec_gapCountExpiry_of_not_due fun due => Nat.not_lt.2 within ((gapDue_running_iff hgap).1 due)

end Sys2Proof.Proofs
end

section
/-! PROOFS. Read-completion (R190): the rise of a select line from TRAILING clears what the port's marks name, and then the
port has no mark (R14, R29, R76, R156, R157, R160, R172; log entries 20 and 25). -/

namespace Sys2Proof.Proofs

open Sys2Proof Sys2Proof.Machine Sys2Proof.Safety

/-! ### Marked values completed and their marks removed -/

theorem vall_vall {α β γ : Type} {n : Nat} (v : Vector α n) (f : α → β) (g : β → γ) :
    vall (vall v f) g = Vector.ofFn fun i => g (f v[i]) := by
  simp only [vall, Fin.getElem_fin, Vector.getElem_ofFn]

/-- R160: a latest register after a completed READ_LATEST of it. -/
theorem latest_completed (r : LatestRegister) :
    { (if r.mark = true then { r with fresh := false, overwritten := false } else r) with mark := false }
      = LatestRegister.mk r.record (r.fresh && !r.mark) (r.overwritten && !r.mark) false := by
  cases h : r.mark <;> simp

/-- R156, R157, R160: ER's part of a port after the read-completion; the causes are those that LS and CC clear. -/
theorem eventPort_completed (q : EventPort) (lock claim : Bool) :
    EventPort.unmark { q.complete with lockCause := lock, claimCause := claim } =
      { q with
        lockCause := lock
        claimCause := claim
        queue := if q.popMark = true then q.queue.drop 1 else q.queue
        lost := if q.lostMark = true then 0 else q.lost
        overflowCause := q.overflowCause && !q.lostMark
        latest := Vector.ofFn fun n : SlotNo =>
          LatestRegister.mk q.latest[n].record (q.latest[n].fresh && !q.latest[n].mark)
            (q.latest[n].overwritten && !q.latest[n].mark) false
        popMark := false
        lostMark := false } := by
  simp only [EventPort.unmark, EventPort.complete, Bool.if_false_left, Bool.decide_eq_true, Bool.and_comm,
    List.drop_one, vall_vall, latest_completed]

/-! ### No mark is left -/

theorem marked_removeMarks (p : Port) (s : State) : marked (removeMarks p s) p = false := by
  simp [marked, removeMarks, EventPort.unmark]

theorem marked_modPort (p q : Port) (f : PortInterface → PortInterface) (s : State) :
    marked (s.modPort p f) q = marked s q := rfl

/-! ### SELECT_RISE from TRAILING -/

theorem rise_of_trailing {q : PortInterface} (h : q.framing = .trailing) :
    q.rise = { q with framing := .idle, sdo := none } := by
  simp only [PortInterface.rise, h]

theorem exec_selectRise_of_trailing {p : Port} {s : State} (h : s.pi[p].framing = .trailing) :
    exec (.selectRise p) s = .next ((removeMarks p (completeRead p s)).modPort p PortInterface.rise) := by
  simp only [exec, execSelectRise, selectRises, h, reduceCtorEq, if_true, if_false]

/-- Settles O33: the effects of the marks, and then their removal, place by place. -/
theorem readCompletionClearsWhatIsMarked : Obligations.ReadCompletionClearsWhatIsMarked := by
  intro p s trailing
  refine ⟨_, exec_selectRise_of_trailing trailing, ?_, ?_⟩
  · rw [marked_modPort, marked_removeMarks]
  · simp only [State.modPort, removeMarks, completeRead, vmod_vmod, vall_vall, Marked.complete, eventPort_completed]
    simp only [vmod_eq_set, rise_of_trailing trailing]

end Sys2Proof.Proofs
end

section
/-! PROOFS. The transitions of the lock state, said once in the words of the statements (R22, R37, R56, R68, R76). -/

namespace Sys2Proof.Proofs

open Sys2Proof Sys2Proof.Machine Sys2Proof.Safety

theorem lockCaused_false (er : Vector EventPort 4) : lockCaused false er = er := by
  ext1 i hi
  simp [lockCaused]

theorem lockCaused_true (er : Vector EventPort 4) :
    lockCaused true er = vall er fun q => { q with lockCause := true } := by
  simp only [lockCaused, Bool.or_true, vall]

/-- R22: a history trimmed from one lock state's depth to another's. -/
theorem trimmed_eq_newest {c : RefConfig} {old new : LockState} (h : depthFor c new < depthFor c old)
    (history : List Nat) : trimmed c old new history = newest (depthFor c new) history := if_pos h

theorem trimmed_of_not_lt {c : RefConfig} {old new : LockState} (h : ¬depthFor c new < depthFor c old)
    (history : List Nat) : trimmed c old new history = history := if_neg h

theorem trimmed_self (c : RefConfig) (l : LockState) (history : List Nat) : trimmed c l l history = history :=
  trimmed_of_not_lt (Nat.lt_irrefl _) history

theorem trimmed_nil (c : RefConfig) (old new : LockState) : trimmed c old new [] = [] := by
  simp [trimmed]

/-- R22, R76: what a move of the lock state changes, in HOLDOVER and FREERUN as in the others. -/
theorem moveLock_eq (l : LockState) (s : State) :
    moveLock l s = { s with
      pt := { s.pt with history := trimmed s.cc.active s.ls.lock l s.pt.history }
      ls := { s.ls with
        lock := l
        lockMarks := if l = s.ls.lock then s.ls.lockMarks else Vector.replicate 4 false }
      er := lockCaused (l != s.ls.lock) s.er } := by
  by_cases same : l = s.ls.lock
  · subst same
    simp [moveLock, trimmed_self, lockCaused_false]
  · have told : (l != s.ls.lock) = true := by simpa using same
    rw [told, lockCaused_true, if_neg same]
    by_cases lower : depthFor s.cc.active l < depthFor s.cc.active s.ls.lock
    · simp only [moveLock, if_neg same, if_pos lower, trimmed_eq_newest lower]
      rfl
    · simp only [moveLock, if_neg same, if_neg lower, trimmed_of_not_lt lower]
      rfl

/-- R8, R37, R68: a transition into STOPPED or SEARCH, but for the timer and the teardown. -/
theorem fall_eq (l : LockState) (s : State) :
    fall l s = { s with
      eq := { s.eq with cycleNoise := 0, window := none }
      pt := { s.pt with history := [] }
      ag := invalidAngle s.ag
      ls := { s.ls with
        lock := l
        settle := 0
        clean := 0
        noisy := 0
        indexMiss := 0
        synthInCycle := false
        lockMarks := if l = s.ls.lock then s.ls.lockMarks else Vector.replicate 4 false }
      er := lockCaused (l != s.ls.lock) s.er } := by
  rw [fall, moveLock_eq]
  simp only [clearCycleNoise_pt, flushHistory_pt_history, trimmed_nil]
  rfl

end Sys2Proof.Proofs
end

section
/-! PROOFS. The laws of the reference at every step (R19, R22, R37, R51, R65, R174): what each operation of the reference
path, each timed event, each event on a port's lines and each request does to them. -/

namespace Sys2Proof.Proofs

open Sys2Proof Sys2Proof.Machine Sys2Proof.Safety

/-! ### The laws and what they speak of -/

/-- The four laws, which every step keeps together. -/
structure ReferenceSound (s : State) : Prop where
  angle : AngleSound s
  lock : LockSound s
  configuration : ConfigurationInRange s
  history : HistorySound s

/-- All that the four laws read of a state. -/
structure Reference where
  lock : LockState
  settle : Nat
  history : List Nat
  valid : Bool
  tooth : Nat
  base : Nat
  deadline : Option Nat
  lateWindow : Option Nat
  missCount : Nat
  freeRunning : Bool
  active : RefConfig
  staged : Option RefConfig
  pendingRecord : Option RefConfig

def referenceOf (s : State) : Reference :=
  ⟨s.ls.lock, s.ls.settle, s.pt.history, s.ag.valid, s.ag.tooth, s.ag.base, s.ag.deadline, s.ag.lateWindow,
    s.ag.missCount, s.ag.freeRunning, s.cc.active, s.cc.staged, s.cc.pendingRecord⟩

/-- An operation that leaves all that the laws read leaves the laws. -/
theorem ReferenceSound.congr {s t : State} (h : ReferenceSound s) (e : referenceOf t = referenceOf s) :
    ReferenceSound t := by
  obtain ⟨lock, settle, history, valid, tooth, base, deadline, lateWindow, missCount, freeRunning, active, staged,
    pendingRecord⟩ := Reference.mk.inj e
  obtain ⟨angle, lockLaw, configuration, historyLaw⟩ := h
  refine ⟨?_, ?_, ?_, ?_⟩
  · simpa only [AngleSound, valid, lock, tooth, base, deadline, lateWindow, missCount, active] using angle
  · simpa only [LockSound, lock, settle, freeRunning] using lockLaw
  · simpa only [ConfigurationInRange, active, staged, pendingRecord] using configuration
  · simpa only [HistorySound, State.depth, history, active, lock] using historyLaw

namespace ReferenceSound

variable {s : State} (h : ReferenceSound s)

include h

theorem valid (stopped : s.ls.lock ≠ .stopped) (search : s.ls.lock ≠ .search) : s.ag.valid = true := by
  obtain ⟨validIff, -, -⟩ := h.angle
  exact validIff.2 ⟨stopped, search⟩

theorem lock_of_valid (valid : s.ag.valid = true) : s.ls.lock ≠ .stopped ∧ s.ls.lock ≠ .search := by
  obtain ⟨validIff, -, -⟩ := h.angle
  exact validIff.1 valid

theorem tooth_lt : s.ag.tooth < s.cc.active.toothCount := by
  obtain ⟨-, -, tooth⟩ := h.angle
  exact tooth

theorem halted (other : s.ls.lock ≠ .freerun) : s.ag.freeRunning = false := by
  obtain ⟨-, running⟩ := h.lock
  exact Bool.eq_false_iff.2 fun runs => other (running.1 runs)

theorem active_inRange : inRange s.cc.active := by
  obtain ⟨active, -, -⟩ := h.configuration
  exact active

theorem staged_inRange {c : RefConfig} (e : s.cc.staged = some c) : inRange c := by
  obtain ⟨-, staged, -⟩ := h.configuration
  exact staged c e

theorem pendingRecord_inRange {c : RefConfig} (e : s.cc.pendingRecord = some c) : inRange c := by
  obtain ⟨-, -, pendingRecord⟩ := h.configuration
  exact pendingRecord c e

end ReferenceSound

theorem referenceOf_of_frame {s t : State} (h : FiringFrame s t) : referenceOf t = referenceOf s := by
  simp only [referenceOf, h.ls, h.pt, h.ag, h.cc]

theorem ReferenceSound.of_frame {s t : State} (h : ReferenceSound s) (f : FiringFrame s t) : ReferenceSound t :=
  h.congr (referenceOf_of_frame f)

/-! ### Configurations in range (R174) -/

theorem toothCount_pos {c : RefConfig} (h : inRange c) : 0 < c.toothCount := Nat.lt_of_lt_of_le (by decide) h.1

theorem depthFor_pos {c : RefConfig} (h : inRange c) (l : LockState) : 1 ≤ depthFor c l := by
  obtain ⟨-, -, -, -, -, -, -, -, acquire, locked, -⟩ := h
  cases l <;> simp only [depthFor] <;> omega

theorem inRange_default : inRange RefConfig.default := by
  unfold inRange
  decide

theorem between_eq_some {lo hi v x : Nat} : between lo hi v = some x ↔ (lo ≤ v ∧ v ≤ hi) ∧ v = x := by
  simp [between]

theorem depthOf_eq_some {v x : Nat} : depthOf v = some x ↔ (v = 1 ∨ v = 2 ∨ v = 4 ∨ v = 8) ∧ v = x := by
  simp [depthOf]

/-- R175: a value that STAGE_PARAM takes leaves the configuration in range: its own field is checked, and every other
field stays. -/
theorem inRange_write {c d : RefConfig} {v : Nat} {q : Param} (h : inRange c) (e : c.write v q = some d) :
    inRange d := by
  cases q
  all_goals
    simp only [RefConfig.write, Option.map_eq_some_iff, between_eq_some, depthOf_eq_some] at e
    obtain ⟨x, hx, rfl⟩ := e
    simp only [inRange, RefConfig.withGate] at h ⊢
    grind

/-! ### Operations that keep the laws -/

/-- The operation takes a state that keeps the laws to one that keeps them. -/
def KeepsReference (f : State → State) : Prop := ∀ s, ReferenceSound s → ReferenceSound (f s)

theorem keepsReference_id : KeepsReference id := fun _ h => h

theorem foldl_sound {α : Type} {f : State → α → State} (hf : ∀ s a, ReferenceSound s → ReferenceSound (f s a))
    (l : List α) {s : State} (h : ReferenceSound s) : ReferenceSound (l.foldl f s) := by
  induction l generalizing s with
  | nil => exact h
  | cons a rest ih => exact ih (hf s a h)

/-- While the angle is valid, AG may move on to any tooth below T and keep what deadline and misses it likes (R51). -/
theorem ReferenceSound.of_ag {s t : State} (h : ReferenceSound s) (valid : s.ag.valid = true) (ag : AngleGenerator)
    (e : referenceOf t = referenceOf { s with ag := ag }) (validStill : ag.valid = true)
    (tooth : ag.tooth < s.cc.active.toothCount) (running : ag.freeRunning = s.ag.freeRunning) : ReferenceSound t := by
  suffices ReferenceSound { s with ag := ag } from this.congr e
  obtain ⟨⟨validIff, -, -⟩, ⟨settle, runningIff⟩, configuration, history⟩ := h
  refine ⟨⟨?_, ?_, tooth⟩, ⟨settle, ?_⟩, configuration, history⟩
  · simpa only [validStill, ← valid] using validIff
  · simp [validStill]
  · simpa only [running] using runningIff

/-! ### Period Tracker (R17 to R25) -/

theorem newest_length_le (d : Nat) (history : List Nat) : (newest d history).length ≤ d := by
  simp only [newest, List.length_drop]
  omega

theorem mem_of_mem_newest {d n : Nat} {history : List Nat} (h : n ∈ newest d history) : n ∈ history :=
  List.mem_of_mem_drop h

/-- The laws stay where the history alone is replaced by one that keeps them (R19, R22). -/
theorem ReferenceSound.of_history {s t : State} (h : ReferenceSound s) (history : List Nat)
    (e : referenceOf t = { referenceOf s with history := history }) (short : history.length ≤ s.depth)
    (positive : ∀ n ∈ history, 1 ≤ n) : ReferenceSound t := by
  suffices ReferenceSound { s with pt := { s.pt with history := history } } from this.congr e
  exact ⟨h.angle, h.lock, h.configuration, short, positive⟩

theorem flushHistory_sound : KeepsReference flushHistory := fun _ h => h.of_history [] rfl (Nat.zero_le _) (by simp)

theorem takeInterval_sound {n : Nat} (pos : 1 ≤ n) : KeepsReference (takeInterval n) := by
  intro s h
  unfold takeInterval
  split
  · exact h.of_history [n] rfl (depthFor_pos h.active_inRange _) (by simpa using pos)
  · refine h.of_history _ rfl (newest_length_le _ _) fun m hm => ?_
    rcases List.mem_append.1 (mem_of_mem_newest hm) with old | new
    · exact h.history.2 m old
    · rwa [List.mem_singleton.1 new]

/-- R17: an interval is at least 1 pu, and so is the free value of one that has no stated length (log entry 10). -/
theorem closeInterval_sound (n : Nat) : KeepsReference (closeInterval n) := by
  intro s h
  unfold closeInterval
  split
  · exact takeInterval_sound (Nat.le_add_right 1 _) _ (h.congr rfl)
  · next positive => exact takeInterval_sound (Nat.one_le_iff_ne_zero.2 positive) s h

theorem measureEdge_sound : KeepsReference measureEdge := by
  intro s h
  unfold measureEdge
  split
  · exact h
  · split
    · exact flushHistory_sound s h
    · split
      · exact h
      · split
        · exact closeInterval_sound _ s h
        · exact h
        · exact h

theorem trackEdge_sound : KeepsReference trackEdge := fun s h => (measureEdge_sound s h).congr rfl

/-! ### Transitions of the lock state (R56, R65 to R69) -/

theorem trimmed_length_le {c : RefConfig} {old new : LockState} {history : List Nat}
    (h : history.length ≤ depthFor c old) : (trimmed c old new history).length ≤ depthFor c new := by
  by_cases lower : depthFor c new < depthFor c old
  · rw [trimmed_eq_newest lower]
    exact newest_length_le _ _
  · rw [trimmed_of_not_lt lower]
    omega

theorem mem_of_mem_trimmed {c : RefConfig} {old new : LockState} {n : Nat} {history : List Nat}
    (h : n ∈ trimmed c old new history) : n ∈ history := by
  unfold trimmed at h
  split at h
  · exact List.mem_of_mem_drop h
  · exact h

/-- The history that a move of the lock state leaves fits the depth that state selects (R22). -/
theorem moveLock_historySound (l : LockState) {s : State} (h : HistorySound s) : HistorySound (moveLock l s) := by
  obtain ⟨short, positive⟩ := h
  rw [moveLock_eq]
  exact ⟨trimmed_length_le short, fun n hn => positive n (mem_of_mem_trimmed hn)⟩

/-- A move into a state that keeps the angle valid, from any state whose angle is valid by now: ALIGN makes it so before
the state is left that had none (R46). -/
theorem moveLock_sound {l : LockState} {s : State} (stopped : l ≠ .stopped) (search : l ≠ .search)
    (valid : s.ag.valid = true) (tooth : s.ag.tooth < s.cc.active.toothCount) (settle : l ≠ .locked → s.ls.settle = 0)
    (running : s.ag.freeRunning = true ↔ l = .freerun) (configuration : ConfigurationInRange s)
    (history : HistorySound s) : ReferenceSound (moveLock l s) := by
  have historyLaw := moveLock_historySound l history
  rw [moveLock_eq] at historyLaw ⊢
  refine ⟨⟨⟨fun _ => ⟨stopped, search⟩, fun _ => valid⟩, fun invalid => ?_, tooth⟩, ⟨settle, running⟩, configuration,
    historyLaw⟩
  simp [valid] at invalid

/-- R37, R68: a transition into STOPPED or SEARCH sets up every law anew, whatever held before it. -/
theorem fall_sound {l : LockState} {s : State} (hl : l = .stopped ∨ l = .search)
    (configuration : ConfigurationInRange s) : ReferenceSound (fall l s) := by
  rw [fall_eq]
  refine ⟨⟨?_, fun _ => ⟨rfl, rfl, rfl, rfl, rfl⟩, toothCount_pos configuration.1⟩, ⟨fun _ => rfl, ?_⟩, configuration,
    Nat.zero_le _, by simp⟩
  · rcases hl with rfl | rfl <;> simp [invalidAngle]
  · rcases hl with rfl | rfl <;> simp [invalidAngle]

theorem goOnToStopped_sound : KeepsReference goOnToStopped := by
  intro s h
  unfold goOnToStopped
  split
  · exact fall_sound (.inl rfl) h.configuration
  · exact h

theorem setStandstill_sound (t : Timer) : KeepsReference (setStandstill t) := fun _ h => h.congr rfl

theorem startStandstill_sound : KeepsReference startStandstill := by
  intro s h
  unfold startStandstill
  split
  · exact setStandstill_sound _ s h
  · exact h

section Application

variable {ap : State → State} (keeps : KeepsReference ap)

include keeps

theorem teardown_sound : KeepsReference (teardown ap) := fun s h => keeps _ (h.of_frame (teardownParts_frame s))

theorem departFrom_sound (before : State) : KeepsReference (departFrom ap before) := by
  intro s h
  unfold departFrom
  split
  · exact teardown_sound keeps s h
  · exact h

theorem enterSearch_sound {s : State} (configuration : ConfigurationInRange s) : ReferenceSound (enterSearch ap s) :=
  goOnToStopped_sound _ (departFrom_sound keeps s _ (startStandstill_sound _ (fall_sound (.inr rfl) configuration)))

/-- R69: from LOCKED and HOLDOVER, and from SEARCH once ALIGN has made the angle valid. -/
theorem enterAcquire_sound {s : State} (valid : s.ag.valid = true) (tooth : s.ag.tooth < s.cc.active.toothCount)
    (running : s.ag.freeRunning = false) (configuration : ConfigurationInRange s) (history : HistorySound s) :
    ReferenceSound (enterAcquire ap s) := by
  refine goOnToStopped_sound _ (departFrom_sound keeps s _ (moveLock_sound ?_ ?_ valid tooth ?_ ?_ configuration history))
  · decide
  · decide
  · exact fun _ => rfl
  · simp [running]

theorem restart_sound {s : State} (configuration : ConfigurationInRange s) : ReferenceSound (restart ap s) :=
  departFrom_sound keeps s _ ((fall_sound (.inl rfl) configuration).congr rfl)

theorem standstillExpires_sound : KeepsReference (standstillExpires ap) := by
  intro s h
  have expired : ReferenceSound (setStandstill .expired s) := setStandstill_sound _ s h
  unfold standstillExpires
  simp only
  split
  · exact fall_sound (.inl rfl) expired.configuration
  · exact fall_sound (.inl rfl) expired.configuration
  · split
    · exact enterSearch_sound keeps expired.configuration
    · exact expired
  · split
    · exact enterSearch_sound keeps expired.configuration
    · exact expired
  · exact expired
  · exact expired

end Application

/-- R65: into LOCKED from ACQUIRE and HOLDOVER. -/
theorem enterLocked_sound (settle : Nat) {s : State} (h : ReferenceSound s)
    (hl : s.ls.lock = .acquire ∨ s.ls.lock = .holdover) : ReferenceSound (enterLocked settle s) := by
  have valid : s.ag.valid = true :=
    h.valid (by rcases hl with e | e <;> simp [e]) (by rcases hl with e | e <;> simp [e])
  have halted : s.ag.freeRunning = false := h.halted (by rcases hl with e | e <;> simp [e])
  refine moveLock_sound (by decide) (by decide) valid h.tooth_lt (by simp) ?_ h.configuration h.history
  simp [halted]

theorem enterHoldover_sound {s : State} (h : ReferenceSound s) (hl : s.ls.lock = .locked) :
    ReferenceSound (enterHoldover s) := by
  have valid : s.ag.valid = true := h.valid (by simp [hl]) (by simp [hl])
  have halted : s.ag.freeRunning = false := h.halted (by simp [hl])
  refine ReferenceSound.of_frame ?_ (holdoverDiscard_frame _)
  refine moveLock_sound (by decide) (by decide) valid h.tooth_lt (fun _ => rfl) ?_ h.configuration h.history
  simp [halted]

/-! ### Judging steps (R59 to R67) -/

theorem referenceOf_noteSynth (rep : StepReport) (s : State) : referenceOf (noteSynth rep s) = referenceOf s := by
  unfold noteSynth
  split <;> rfl

theorem referenceOf_countHoldover (rep : StepReport) (s : State) : referenceOf (countHoldover rep s) = referenceOf s := by
  unfold countHoldover
  split <;> rfl

theorem referenceOf_judgeStep (rep : StepReport) (s : State) : referenceOf (judgeStep rep s) = referenceOf s := by
  unfold judgeStep
  split <;> rfl

theorem referenceOf_handOverNoise (rep : StepReport) (s : State) : referenceOf (handOverNoise rep s) = referenceOf s := by
  unfold handOverNoise
  split <;> rfl

theorem lock_of_referenceOf {s t : State} (e : referenceOf t = referenceOf s) : t.ls.lock = s.ls.lock :=
  congrArg Reference.lock e

/-- Counting down the settle stays within LOCKED (R65). -/
theorem countSettle_sound {s : State} (h : ReferenceSound s) (hl : s.ls.lock = .locked) :
    ReferenceSound (countSettle s) := by
  have counted (settle : Nat) : ReferenceSound { s with ls := { s.ls with settle := settle } } :=
    ⟨h.angle, ⟨fun other => absurd hl other, h.lock.2⟩, h.configuration, h.history⟩
  unfold countSettle
  split
  · exact h
  · simp only
    split
    · exact (counted (s.ls.settle - 1)).congr rfl
    · exact counted _

/-! ### The parts of an edge and of a step that apply no commit (R2, R10, R38, R43, R45 to R47, R57) -/

theorem nextTooth_lt {teeth : Nat} (h : 0 < teeth) (k : Nat) : nextTooth teeth k < teeth := Nat.mod_lt _ h

theorem indexCheck_lt {s : State} (h : inRange s.cc.active) : (indexCheck s).1 < s.cc.active.toothCount := by
  have pos := toothCount_pos h
  unfold indexCheck
  simp only
  split
  · split <;> exact pos
  · exact nextTooth_lt pos _

theorem supervise_of_align {ap : State → State} {rep : StepReport} {s : State} (search : s.ls.lock = .search)
    (align : rep.finding = .align) : supervise ap rep s = enterAcquire ap s := by
  simp only [supervise, search, align, if_true]

theorem lateAcceptance_sound {s : State} (h : ReferenceSound s) (valid : s.ag.valid = true) :
    ReferenceSound (lateAcceptance s) := h.of_ag valid _ rfl valid h.tooth_lt rfl

theorem realEdgeNotice_sound : KeepsReference realEdgeNotice := by
  intro s h
  unfold realEdgeNotice
  simp only
  split
  · exact fall_sound (.inr rfl) h.configuration
  · exact setStandstill_sound _ s h

/-- The notice moves the lock state in STOPPED alone (R57). -/
theorem realEdgeNotice_of_not_stopped {s : State} (h : s.ls.lock ≠ .stopped) :
    realEdgeNotice s = setStandstill (.running 0) s := if_neg h

theorem indexArrival_sound : KeepsReference indexArrival := by
  intro s h
  rw [indexArrival_eq]
  split
  · exact h
  · split <;> exact h.congr rfl

theorem setLine_sound (line : LineId) (f : FilterLine → FilterLine) : KeepsReference (setLine line f) := by
  intro s h
  rw [setLine_frame]
  exact h.congr rfl

theorem reevaluateGate_sound (n : GateNo) : KeepsReference (reevaluateGate n) := by
  intro s h
  unfold reevaluateGate
  split
  · exact h
  · rw [gateChanged_eq]
    simp only
    split <;> exact h.congr rfl

/-! ### A step judged, for any application of a commit that keeps the laws (R63 to R67) -/

section Application

variable {ap : State → State} (keeps : KeepsReference ap)

include keeps

/-- R69, from a state that is judged. -/
theorem enterAcquire_sound_of_judged {s : State} (h : ReferenceSound s)
    (hl : s.ls.lock = .locked ∨ s.ls.lock = .holdover) : ReferenceSound (enterAcquire ap s) := by
  have valid : s.ag.valid = true :=
    h.valid (by rcases hl with e | e <;> simp [e]) (by rcases hl with e | e <;> simp [e])
  have halted : s.ag.freeRunning = false := h.halted (by rcases hl with e | e <;> simp [e])
  exact enterAcquire_sound keeps valid h.tooth_lt halted h.configuration h.history

theorem stepInAcquire_sound (rep : StepReport) {s : State} (h : ReferenceSound s) (hl : s.ls.lock = .acquire) :
    ReferenceSound (stepInAcquire ap rep s) := by
  have same : referenceOf (judgeStep rep (noteSynth rep s)) = referenceOf s :=
    (referenceOf_judgeStep rep _).trans (referenceOf_noteSynth rep s)
  have judged := h.congr same
  unfold stepInAcquire
  simp only
  split
  · exact enterSearch_sound keeps judged.configuration
  · split
    · exact enterLocked_sound _ judged (.inl ((lock_of_referenceOf same).trans hl))
    · exact judged

theorem stepInLocked_sound (rep : StepReport) {s : State} (h : ReferenceSound s) (hl : s.ls.lock = .locked) :
    ReferenceSound (stepInLocked ap rep s) := by
  have same : referenceOf (judgeStep rep (noteSynth rep s)) = referenceOf s :=
    (referenceOf_judgeStep rep _).trans (referenceOf_noteSynth rep s)
  have judged := h.congr same
  have locked := (lock_of_referenceOf same).trans hl
  unfold stepInLocked
  simp only
  split
  · exact enterAcquire_sound_of_judged keeps judged (.inl locked)
  · split
    · exact enterHoldover_sound judged locked
    · split
      · exact countSettle_sound judged locked
      · exact judged

theorem stepInHoldover_sound (rep : StepReport) {s : State} (h : ReferenceSound s) (hl : s.ls.lock = .holdover) :
    ReferenceSound (stepInHoldover ap rep s) := by
  have same : referenceOf (judgeStep rep (countHoldover rep (noteSynth rep s))) = referenceOf s :=
    (referenceOf_judgeStep rep _).trans ((referenceOf_countHoldover rep _).trans (referenceOf_noteSynth rep s))
  have judged := h.congr same
  have holdover := (lock_of_referenceOf same).trans hl
  unfold stepInHoldover
  simp only
  split
  · exact enterSearch_sound keeps judged.configuration
  · split
    · exact enterAcquire_sound_of_judged keeps judged (.inr holdover)
    · split
      · exact enterLocked_sound _ judged (.inr holdover)
      · exact judged

/-- LS judges a step outside SEARCH, where no step but ALIGN is made (R46, R61). -/
theorem supervise_sound (rep : StepReport) {s : State} (h : ReferenceSound s) (search : s.ls.lock ≠ .search) :
    ReferenceSound (supervise ap rep s) := by
  unfold supervise
  split
  · exact h
  · next e => exact absurd e search
  · next e => exact stepInAcquire_sound keeps rep h e
  · next e => exact stepInLocked_sound keeps rep h e
  · next e => exact stepInHoldover_sound keeps rep h e
  · exact h

/-! ### A step (R35, R105, R109) -/

theorem stepActivation_sound (rep : StepReport) : KeepsReference (stepActivation ap rep) := by
  intro s h
  unfold stepActivation
  split
  · exact keeps _ (h.of_frame (activateArming_frame s))
  · exact h

theorem schedulerStep_sound (rep : StepReport) : KeepsReference (schedulerStep ap rep) := fun s h =>
  (stepActivation_sound keeps rep _ (h.of_frame (stepFlush_frame _ _ s))).of_frame (stepEnumeration_frame rep _)

theorem handStep_sound (rep : StepReport) {s : State} (h : ReferenceSound s) (search : s.ls.lock ≠ .search) :
    ReferenceSound (handStep ap rep s) := by
  have same := referenceOf_handOverNoise rep s
  exact schedulerStep_sound keeps rep _ (supervise_sound keeps rep (h.congr same)
    (lock_of_referenceOf same ▸ search))

/-! ### Angle Generator (R35 to R52) -/

theorem realStep_sound {s : State} (h : ReferenceSound s) (valid : s.ag.valid = true) :
    ReferenceSound (realStep ap s) :=
  handStep_sound keeps _
    (h.of_ag valid _ rfl valid (indexCheck_lt h.active_inRange) rfl) (h.lock_of_valid valid).2

/-- R46: ALIGN makes the angle valid in SEARCH, and LS takes the hub to ACQUIRE in the same step. -/
theorem supervise_sound_of_align {rep : StepReport} {s : State} (search : s.ls.lock = .search)
    (align : rep.finding = .align) (valid : s.ag.valid = true) (tooth : s.ag.tooth < s.cc.active.toothCount)
    (halted : s.ag.freeRunning = false) (configuration : ConfigurationInRange s) (history : HistorySound s) :
    ReferenceSound (supervise ap rep s) := by
  rw [supervise_of_align search align]
  exact enterAcquire_sound keeps valid tooth halted configuration history

theorem alignStep_sound {s : State} (h : ReferenceSound s) (search : s.ls.lock = .search) :
    ReferenceSound (alignStep ap s) := by
  have halted : s.ag.freeRunning = false := h.halted (by simp [search])
  exact schedulerStep_sound keeps _ _ (supervise_sound_of_align keeps search rfl rfl
    (toothCount_pos h.active_inRange) halted h.configuration h.history)

theorem synthStep_sound {s : State} (h : ReferenceSound s) (valid : s.ag.valid = true) :
    ReferenceSound (synthStep ap s) :=
  handStep_sound keeps _
    (h.of_ag valid _ rfl valid (indexCheck_lt h.active_inRange) rfl) (h.lock_of_valid valid).2

theorem freeRunStep_sound {s : State} (h : ReferenceSound s) (valid : s.ag.valid = true) :
    ReferenceSound (freeRunStep ap s) :=
  handStep_sound keeps _
    (h.of_ag valid _ rfl valid (nextTooth_lt (toothCount_pos h.active_inRange) _) rfl) (h.lock_of_valid valid).2

theorem generatorEdge_sound : KeepsReference (generatorEdge ap) := by
  intro s h
  have noticed : ReferenceSound
      { realEdgeNotice s with ag := { (realEdgeNotice s).ag with synthSinceReal := false } } :=
    (realEdgeNotice_sound s h).congr rfl
  have moved (stopped : s.ls.lock ≠ .stopped) (search : s.ls.lock ≠ .search) : ReferenceSound
      (if inLateWindow s then
        lateAcceptance { realEdgeNotice s with ag := { (realEdgeNotice s).ag with synthSinceReal := false } }
      else realStep ap { realEdgeNotice s with ag := { (realEdgeNotice s).ag with synthSinceReal := false } }) := by
    have valid : (realEdgeNotice s).ag.valid = true := by
      rw [realEdgeNotice_of_not_stopped stopped]
      exact h.valid stopped search
    split
    · exact lateAcceptance_sound noticed valid
    · exact realStep_sound keeps noticed valid
  unfold generatorEdge
  simp only
  split
  · exact noticed
  · next e =>
      split
      · refine alignStep_sound keeps noticed ?_
        rw [realEdgeNotice_of_not_stopped (by simp [e])]
        exact e
      · exact noticed
  · next e => exact moved (by simp [e]) (by simp [e])
  · next e => exact moved (by simp [e]) (by simp [e])
  · next e => exact moved (by simp [e]) (by simp [e])
  · exact noticed

/-! ### Edge Qualifier (R4 to R13) -/

theorem toothEdge_sound : KeepsReference (toothEdge ap) := by
  intro s h
  unfold toothEdge
  split
  · exact h.congr rfl
  · exact generatorEdge_sound keeps _ ((trackEdge_sound s h).congr rfl)

theorem edgeArrives_sound (line : LineId) : KeepsReference (edgeArrives ap line) := by
  intro s h
  unfold edgeArrives
  split
  · split
    · exact toothEdge_sound keeps s h
    · exact h
  · split
    · exact indexArrival_sound s h
    · exact h
  · exact h

theorem filteredTransition_sound (line : LineId) : KeepsReference (filteredTransition ap line) := by
  intro s h
  unfold filteredTransition
  split
  · exact reevaluateGate_sound _ _ (setLine_sound _ _ s h)
  · exact edgeArrives_sound keeps _ _ (setLine_sound _ _ s h)
  · exact edgeArrives_sound keeps _ _ (setLine_sound _ _ s h)

end Application

/-! ### Applying a record (R3, R13, R179) -/

/-- R74, R51: after the class A effects the tooth index is below whatever T the record has. -/
theorem classAEffects_sound {s : State} (h : ReferenceSound s) {cc : ClaimController}
    (range : ConfigurationInRange { s with cc := cc }) : ReferenceSound (classAEffects { s with cc := cc }) := by
  have pos : 0 < cc.active.toothCount := toothCount_pos range.1
  unfold classAEffects classALock
  simp only
  split
  · next stopped =>
      have invalid : ¬s.ag.valid = true := fun valid => (h.lock_of_valid valid).1 stopped
      obtain ⟨validIff, cleared, -⟩ := h.angle
      obtain ⟨tooth, -⟩ := cleared (Bool.eq_false_iff.2 invalid)
      have below : s.ag.tooth < cc.active.toothCount := tooth ▸ pos
      exact ⟨⟨validIff, cleared, below⟩, h.lock, range, Nat.zero_le _, by simp⟩
  · exact setStandstill_sound _ _ (fall_sound (.inr rfl) range)
  · exact departFrom_sound keepsReference_id _ _ (setStandstill_sound _ _ (fall_sound (.inr rfl) range))
  · exact departFrom_sound keepsReference_id _ _ (setStandstill_sound _ _ (fall_sound (.inr rfl) range))
  · exact departFrom_sound keepsReference_id _ _ (setStandstill_sound _ _ (fall_sound (.inr rfl) range))
  · next freerun =>
      have lock : s.ls.lock = .freerun := freerun
      have valid : s.ag.valid = true := h.valid (by simp [lock]) (by simp [lock])
      obtain ⟨validIff, -, -⟩ := h.angle
      refine ⟨⟨validIff, fun invalid => ?_, pos⟩, h.lock, range, Nat.zero_le _, by simp⟩
      exact absurd (valid.symm.trans invalid) (by decide)

theorem toothCount_of_not_classA {old new : RefConfig} (h : classAChanged old new = false) :
    new.toothCount = old.toothCount := by
  simp only [classAChanged, Bool.or_eq_false_iff, bne_eq_false_iff_eq] at h
  obtain ⟨⟨⟨⟨same, -⟩, -⟩, -⟩, -⟩ := h
  exact same.symm

theorem depthFor_congr {old new : RefConfig}
    (h : ¬(old.acquireDepth ≠ new.acquireDepth ∨ old.lockedDepth ≠ new.lockedDepth)) (l : LockState) :
    depthFor new l = depthFor old l := by
  obtain ⟨acquire, locked⟩ : old.acquireDepth = new.acquireDepth ∧ old.lockedDepth = new.lockedDepth := by
    simpa only [not_or, not_not] using h
  cases l <;> simp only [depthFor, acquire, locked]

theorem reevaluateDepth_sound (old : RefConfig) : KeepsReference (reevaluateDepth old) := by
  intro s h
  unfold reevaluateDepth
  split
  · exact h.of_history _ rfl (newest_length_le _ _) fun n hn => h.history.2 n (mem_of_mem_newest hn)
  · exact h

/-- R23: a history that fitted the depth of the old record fits that of the new one once it is trimmed. -/
theorem reevaluateDepth_sound_of_old {old : RefConfig} {s : State} (angle : AngleSound s) (lock : LockSound s)
    (configuration : ConfigurationInRange s) (short : s.pt.history.length ≤ depthFor old s.ls.lock)
    (positive : ∀ n ∈ s.pt.history, 1 ≤ n) : ReferenceSound (reevaluateDepth old s) := by
  unfold reevaluateDepth
  split
  · exact ⟨angle, lock, configuration, newest_length_le _ _, fun n hn => positive n (mem_of_mem_newest hn)⟩
  · next higher => exact ⟨angle, lock, configuration, short.trans (Nat.le_of_not_lt higher), positive⟩

/-- The laws after the effects of a record in EQ, PT, AG and LS, but for limits and filters (R179 part 2). -/
theorem depthEffects_sound {s : State} (h : ReferenceSound s) {cc : ClaimController}
    (range : ConfigurationInRange { s with cc := cc }) {t : State}
    (ht : t = if classAChanged s.cc.active cc.active then classAEffects { s with cc := cc } else { s with cc := cc }) :
    ReferenceSound (if s.cc.active.acquireDepth ≠ cc.active.acquireDepth ∨ s.cc.active.lockedDepth ≠ cc.active.lockedDepth
      then reevaluateDepth s.cc.active t else t) := by
  by_cases classA : classAChanged s.cc.active cc.active = true
  · have sound : ReferenceSound t := by
      rw [ht, if_pos classA]
      exact classAEffects_sound h range
    split
    · exact reevaluateDepth_sound _ t sound
    · exact sound
  · rw [if_neg classA] at ht
    subst ht
    have teeth := toothCount_of_not_classA (Bool.eq_false_iff.2 classA)
    obtain ⟨validIff, cleared, tooth⟩ := h.angle
    obtain ⟨short, positive⟩ := h.history
    have angle : AngleSound { s with cc := cc } := ⟨validIff, cleared, teeth ▸ tooth⟩
    split
    · exact reevaluateDepth_sound_of_old angle h.lock range short positive
    · next same => exact ⟨angle, h.lock, range, short.trans_eq (depthFor_congr same _).symm, positive⟩

theorem judgeStandstillLimit_sound : KeepsReference judgeStandstillLimit := by
  intro s h
  have judged : ReferenceSound { s with pt := { s.pt with gap := s.pt.gap.judge s.cc.active.standstillLimit } } :=
    h.congr rfl
  unfold judgeStandstillLimit
  simp only
  split
  · exact standstillExpires_sound keepsReference_id _ judged
  · exact judged

theorem expireAtApplication_sound {s : State} (line : LineId) (h : ReferenceSound s) :
    ReferenceSound (expireAtApplication s line) := by
  unfold expireAtApplication
  split
  · exact edgeArrives_sound keepsReference_id _ _ (setLine_sound _ _ s h)
  · exact h

theorem requalify_sound (old : RefConfig) : KeepsReference (requalify old) := by
  intro s h
  unfold requalify
  refine foldl_sound (fun u n => reevaluateGate_sound n u) _ ?_
  refine ReferenceSound.congr (s := List.foldl expireAtApplication _ _) ?_ rfl
  refine foldl_sound (fun u line => expireAtApplication_sound line) _ ?_
  exact h.congr rfl

theorem carryOutChange_sound {s : State} (h : ReferenceSound s) {cc : ClaimController}
    (range : ConfigurationInRange { s with cc := cc }) :
    ReferenceSound (carryOutChange s.cc.active cc.active { s with cc := cc }) := by
  have depths := depthEffects_sound h range rfl
  unfold carryOutChange
  simp only
  refine requalify_sound _ _ ?_
  split
  · exact judgeStandstillLimit_sound _ depths
  · exact depths

/-- The staged copy becomes the active configuration, which is in range (R179 part 5). -/
theorem tellHolder_sound : KeepsReference tellHolder := by
  intro s h
  unfold tellHolder
  split
  · exact h
  · obtain ⟨active, -, pendingRecord⟩ := h.configuration
    exact ⟨h.angle, h.lock, ⟨active, fun c e => Option.some.inj e ▸ active, pendingRecord⟩, h.history⟩

theorem applyRecord_sound {new : RefConfig} (range : inRange new) : KeepsReference (applyRecord new) := by
  intro s h
  have ranges : ConfigurationInRange { s with cc := { s.cc with active := new, pendingRecord := none } } :=
    ⟨range, fun _ => h.staged_inRange, by simp⟩
  unfold applyRecord
  refine tellHolder_sound _ ?_
  split
  · next same =>
      subst same
      exact ⟨h.angle, h.lock, ranges, h.history⟩
  · exact carryOutChange_sound h ranges

theorem applyPending_sound : KeepsReference applyPending := by
  intro s h
  unfold applyPending
  split
  · exact h
  · next r e => exact applyRecord_sound (h.pendingRecord_inRange e) s h

/-! ### FREERUN_ON and the raw levels (R2, R50, R70) -/

/-- R70: LS goes to FREERUN and AG starts its generator, on a tooth of an angle that is valid by now. -/
theorem freeRunning_sound {s t : State} (h : ReferenceSound s) (ag : AngleGenerator)
    (e : referenceOf t = referenceOf { moveLock .freerun { s with ls := { s.ls with settle := 0, synthInCycle := false } }
      with ag := ag })
    (valid : ag.valid = true) (tooth : ag.tooth < s.cc.active.toothCount) (running : ag.freeRunning = true) :
    ReferenceSound t := by
  have moved : ReferenceSound (moveLock .freerun { s with
      ag := ag, ls := { s.ls with settle := 0, synthInCycle := false } }) :=
    moveLock_sound (by decide) (by decide) valid tooth (fun _ => rfl) (by simp [running]) h.configuration h.history
  refine moved.congr (e.trans ?_)
  rw [moveLock_eq, moveLock_eq]

theorem startFreeRun_sound : KeepsReference startFreeRun := by
  intro s h
  unfold startFreeRun
  simp only
  split
  · next valid =>
      refine ReferenceSound.of_frame ?_ (freerunRetime_frame _)
      refine freeRunning_sound h _ rfl ?_ ?_ rfl
      · rw [moveLock_eq]; exact valid
      · rw [moveLock_eq]; exact h.tooth_lt
  · refine handStep_sound applyPending_sound _ (freeRunning_sound h _ rfl rfl ?_ ?_) ?_
    · exact toothCount_pos h.active_inRange
    · rfl
    · rw [moveLock_eq]
      simp [beginTooth]

theorem rawChange_sound (line : LineId) (level : Bool) : KeepsReference (rawChange line level) := by
  intro s h
  unfold rawChange
  split
  · exact h
  · split
    · split
      · exact setLine_sound _ _ s h
      · exact filteredTransition_sound applyPending_sound _ _ (setLine_sound _ _ s h)
    · exact setLine_sound _ _ s h

/-! ### Timed events and device reset -/

theorem holdInReset_sound (s : State) : ReferenceSound (holdInReset s) := by
  refine ⟨?_, ?_, ⟨inRange_default, ?_, ?_⟩, ?_, ?_⟩ <;>
    simp [AngleSound, LockSound, State.depth, depthFor, AngleGenerator.reset, LockSupervisor.reset,
      ClaimController.reset, PeriodTracker.reset, RefConfig.default]

theorem synthStep_sound_of_due {s : State} (h : ReferenceSound s) (due : missDue s = true) :
    ReferenceSound (synthStep applyPending s) := by
  obtain ⟨d, hd, -⟩ := (missDue_iff s).1 due
  refine synthStep_sound applyPending_sound h (Bool.of_not_eq_false fun invalid => ?_)
  obtain ⟨-, cleared, -⟩ := h.angle
  obtain ⟨-, -, noDeadline, -⟩ := cleared invalid
  simp [noDeadline] at hd

theorem freeRunStep_sound_of_due {s : State} (h : ReferenceSound s) (due : freeStepDue s = true) :
    ReferenceSound (freeRunStep applyPending s) := by
  obtain ⟨freerun, -⟩ := (freeStepDue_iff s).1 due
  exact freeRunStep_sound applyPending_sound h (h.valid (by simp [freerun]) (by simp [freerun]))

theorem fireFirstTicket_sound : KeepsReference fireFirstTicket := by
  intro s h
  unfold fireFirstTicket
  split
  · exact h
  · exact h.of_frame ((firingFrame_of_fs s _).trans (fire_frame _ _ _ _))

theorem tick_sound : KeepsReference tick := by
  intro s h
  unfold tick
  split
  · exact (holdInReset_sound s).congr rfl
  · exact h.congr rfl

/-! ### Requests (R187, R191) -/

/-- The request leaves the laws, whatever it answers. -/
def ActKeepsReference (act : State → State × Reply) : Prop := ∀ s, ReferenceSound s → ReferenceSound (act s).1

theorem onOwnEntry_sound {p : Port} {index : Byte} {s : State} {f : EntryNo → State × Reply} (h : ReferenceSound s)
    (hf : ∀ i, ReferenceSound (f i).1) : ReferenceSound (onOwnEntry p index s f).1 := by
  unfold onOwnEntry
  split
  · exact h
  · split
    · exact hf _
    · exact h

theorem onTrackNo_sound {track : Byte} {s : State} {f : TrackNo → State × Reply} (h : ReferenceSound s)
    (hf : ∀ k, ReferenceSound (f k).1) : ReferenceSound (onTrackNo track s f).1 := by
  unfold onTrackNo
  split
  · exact h
  · exact hf _

theorem onOwnTrack_sound {p : Port} {track : Byte} {s : State} {f : TrackNo → State × Reply} (h : ReferenceSound s)
    (hf : ∀ k, ReferenceSound (f k).1) : ReferenceSound (onOwnTrack p track s f).1 := by
  refine onTrackNo_sound h fun k => ?_
  split
  · exact hf k
  · exact h

theorem holderOnly_sound {p : Port} {s : State} {r : State × Reply} (h : ReferenceSound s) (hr : ReferenceSound r.1) :
    ReferenceSound (holderOnly p s r).1 := by
  unfold holderOnly
  split
  · exact hr
  · exact h

/-! ### Requests on the reference (R70, R72, R73, R78) -/

theorem actFreerunOn_sound (p : Port) : ActKeepsReference (actFreerunOn p) := fun s h =>
  holderOnly_sound h (startFreeRun_sound s h)

theorem actFreerunOff_sound (p : Port) : ActKeepsReference (actFreerunOff p) := by
  refine fun s h => holderOnly_sound h ?_
  split
  · exact enterSearch_sound applyPending_sound h.configuration
  · exact h

theorem actRestartReference_sound (p : Port) : ActKeepsReference (actRestartReference p) := fun _ h =>
  holderOnly_sound h (restart_sound applyPending_sound h.configuration)

theorem actClearCounters_sound (p : Port) : ActKeepsReference (actClearCounters p) := fun _ h =>
  holderOnly_sound h (h.congr rfl)

/-! ### Requests on entries (R85 to R97) -/

theorem modOwned_sound (p : Port) (f : Nat → Nat) : KeepsReference (modOwned p f) := fun _ h => h.congr rfl

theorem actAllocEntry_sound (p : Port) : ActKeepsReference (actAllocEntry p) := by
  intro s h
  unfold actAllocEntry
  split
  · exact h
  · split
    · exact h
    · exact h.congr rfl

theorem actWriteEntry_sound (p : Port) (index : Byte) (image : RawImage) :
    ActKeepsReference (actWriteEntry p index image) := by
  refine fun s h => onOwnEntry_sound h fun i => ?_
  split
  · split
    · exact h
    · exact h.congr rfl
  · exact h

theorem actReadEntry_sound (index : Byte) : ActKeepsReference (actReadEntry index) := by
  intro s h
  unfold actReadEntry
  split <;> exact h

theorem actArmEntry_sound (p : Port) (index : Byte) : ActKeepsReference (actArmEntry p index) := by
  refine fun s h => onOwnEntry_sound h fun i => ?_
  split
  · split
    · exact h
    · exact h.congr rfl
  · exact h

theorem actHoldEntry_sound (p : Port) (index : Byte) : ActKeepsReference (actHoldEntry p index) := by
  refine fun s h => onOwnEntry_sound h fun i => ?_
  split
  · exact (h.of_frame (withdrawEntry_frame i s)).congr rfl
  · exact h

theorem freeOne_sound (i : EntryNo) : KeepsReference (freeOne i) := by
  intro s h
  refine ReferenceSound.congr (s := if _ then withdrawEntry i s else s) ?_ rfl
  split
  · exact h.of_frame (withdrawEntry_frame i s)
  · exact h

theorem actFreeEntry_sound (p : Port) (index : Byte) : ActKeepsReference (actFreeEntry p index) := fun s h =>
  onOwnEntry_sound h fun i => (freeOne_sound i s h).congr rfl

theorem pauseNow_frame (i : EntryNo) (had : Bool) (s : State) : FiringFrame s (pauseNow i had s) := by
  unfold pauseNow
  split
  · exact (removePoints_frame i s).trans (forceClose_frame true i _)
  · exact .refl s

theorem actModifyFlags_sound (p : Port) (index setMask clearMask : Byte) :
    ActKeepsReference (actModifyFlags p index setMask clearMask) := by
  refine fun s h => onOwnEntry_sound h fun i => ?_
  split
  · exact h
  · exact (h.congr (t := s.modEntry i _) rfl).of_frame (pauseNow_frame i _ _)

/-! ### Requests on tracks (R133 to R137) -/

theorem actAssignTrack_sound (p : Port) (track : Byte) : ActKeepsReference (actAssignTrack p track) := by
  refine fun s h => onTrackNo_sound h fun k => ?_
  split
  · exact h.congr rfl
  · split <;> exact h

theorem actReleaseTrack_sound (p : Port) (track : Byte) : ActKeepsReference (actReleaseTrack p track) := by
  refine fun s h => onOwnTrack_sound h fun k => ?_
  split
  · exact h
  · exact h.congr rfl

theorem actSetTrack_sound (p : Port) (track polarity safe onLoss : Byte) :
    ActKeepsReference (actSetTrack p track polarity safe onLoss) := by
  refine fun s h => onOwnTrack_sound h fun k => ?_
  split
  · exact h.congr rfl
  · exact h
  · exact h
  · exact h

theorem actDriveTrack_sound (p : Port) (track value : Byte) : ActKeepsReference (actDriveTrack p track value) := by
  refine fun s h => onOwnTrack_sound h fun k => ?_
  split
  · exact h
  · exact h.congr rfl

theorem actReadTrack_sound (track : Byte) : ActKeepsReference (actReadTrack track) := fun _ h =>
  onTrackNo_sound h fun _ => h

/-! ### Requests on event delivery (R152 to R162) -/

theorem actPopEvent_sound (p : Port) : ActKeepsReference (actPopEvent p) := by
  intro s h
  unfold actPopEvent
  split
  · exact h
  · exact h.congr rfl

theorem actReadLatest_sound (p : Port) (slot : Byte) : ActKeepsReference (actReadLatest p slot) := by
  intro s h
  unfold actReadLatest
  split
  · exact h
  · split
    · exact h
    · exact h.congr rfl

theorem actWriteSlot_sound (p : Port) (slot : Byte) (image : RawSlot) :
    ActKeepsReference (actWriteSlot p slot image) := by
  intro s h
  unfold actWriteSlot
  split
  · exact h.congr rfl
  · exact h
  · exact h

theorem actReadSlot_sound (p : Port) (slot : Byte) : ActKeepsReference (actReadSlot p slot) := by
  intro s h
  unfold actReadSlot
  split <;> exact h

theorem actSetAttnMask_sound (p : Port) (causes : BitVec 16) (watermark : Byte) :
    ActKeepsReference (actSetAttnMask p causes watermark) := by
  intro s h
  unfold actSetAttnMask
  split
  · exact h.congr rfl
  · exact h
  · exact h

/-! ### Requests on the claim and the configuration (R168 to R182) -/

/-- The laws stay where the staged copy alone changes, to none or to a record in range. -/
theorem ReferenceSound.of_staged {s t : State} (h : ReferenceSound s) (staged : Option RefConfig)
    (range : ∀ c, staged = some c → inRange c) (e : referenceOf t = { referenceOf s with staged := staged }) :
    ReferenceSound t := by
  suffices ReferenceSound { s with cc := { s.cc with staged := staged } } from this.congr e
  exact ⟨h.angle, h.lock, ⟨h.active_inRange, range, fun _ => h.pendingRecord_inRange⟩, h.history⟩

theorem inRange_of_staged_active {s : State} (h : ReferenceSound s) : ∀ c, some s.cc.active = some c → inRange c :=
  fun _ e => Option.some.inj e ▸ h.active_inRange

theorem grantClaim_sound (p : Port) : KeepsReference (grantClaim p) := fun _ h =>
  h.of_staged _ (inRange_of_staged_active h) rfl

theorem noteDiscarded_sound (p : Port) : KeepsReference (noteDiscarded p) := by
  intro s h
  unfold noteDiscarded
  split
  · exact h
  · split
    · exact h
    · exact h.congr rfl

theorem passClaim_sound : KeepsReference passClaim := by
  intro s h
  unfold passClaim
  split
  · exact h.of_staged none (by simp) rfl
  · exact grantClaim_sound _ _ (h.congr rfl)

theorem giveUpClaim_sound (p : Port) : KeepsReference (giveUpClaim p) := fun s h =>
  passClaim_sound _ (noteDiscarded_sound p s h)

theorem actRequestClaim_sound (p : Port) : ActKeepsReference (actRequestClaim p) := by
  intro s h
  unfold actRequestClaim
  split
  · exact grantClaim_sound p s h
  · split
    · exact h
    · split
      · exact h
      · exact h.congr rfl

theorem actWithdraw_sound (p : Port) : ActKeepsReference (actWithdraw p) := by
  intro s h
  unfold actWithdraw
  split
  · exact h.congr rfl
  · exact h

theorem actReleaseClaim_sound (p : Port) : ActKeepsReference (actReleaseClaim p) := by
  intro s h
  unfold actReleaseClaim
  split
  · exact giveUpClaim_sound p s h
  · exact h

/-- R175: the staged copy takes a value that its parameter allows. -/
theorem actStageParam_sound (p : Port) (id : Byte) (value : BitVec 24) :
    ActKeepsReference (actStageParam p id value) := by
  refine fun s h => holderOnly_sound h ?_
  split
  · exact h
  · split
    · next q c _ staged =>
        split
        · exact h
        · next d written =>
            have range : inRange d := inRange_write (h.staged_inRange staged) written
            exact h.of_staged (some d) (fun _ e => Option.some.inj e ▸ range) rfl
    · exact h
    · exact h

theorem actReadParam_sound (id selector : Byte) : ActKeepsReference (actReadParam id selector) := by
  intro s h
  unfold actReadParam
  split <;> exact h

/-- R178: the staged copy is in range, whether it waits or is applied at once. -/
theorem actCommit_sound (p : Port) : ActKeepsReference (actCommit p) := by
  refine fun s h => holderOnly_sound h ?_
  split
  · exact h
  · exact h
  · next c _ staged =>
      have range := h.staged_inRange staged
      split
      · exact ⟨h.angle, h.lock,
          ⟨h.active_inRange, fun _ => h.staged_inRange, fun _ e => Option.some.inj e ▸ range⟩, h.history⟩
      · exact applyRecord_sound range s h

theorem actDiscard_sound (p : Port) : ActKeepsReference (actDiscard p) := fun _ h =>
  holderOnly_sound h (h.of_staged _ (inRange_of_staged_active h) rfl)

theorem actSetQuota_sound (p : Port) (target quota : Byte) : ActKeepsReference (actSetQuota p target quota) := by
  refine fun s h => holderOnly_sound h ?_
  split
  · exact h
  · split
    · exact h
    · exact h.congr rfl

/-! ### DETACH (R193) -/

theorem detachEntries_sound (p : Port) : KeepsReference (detachEntries p) := by
  intro s h
  refine modOwned_sound p _ _ (foldl_sound (fun t i ht => ?_) allEntries h)
  split
  · exact freeOne_sound i t ht
  · exact ht

theorem detachClaim_sound (p : Port) : KeepsReference (detachClaim p) := by
  intro s h
  refine ReferenceSound.congr (s := if s.cc.holder = some p then giveUpClaim p s else s) ?_ rfl
  split
  · exact giveUpClaim_sound p s h
  · exact h

theorem releaseTracksOf_sound (p : Port) : KeepsReference (releaseTracksOf p) := fun _ h => h.congr rfl

theorem detachMarks_sound (p : Port) : KeepsReference (detachMarks p) := fun _ h => h.congr rfl

theorem modEvents_sound (p : Port) (f : EventPort → EventPort) : KeepsReference fun s => s.modEvents p f :=
  fun _ h => h.congr rfl

theorem modPort_sound (p : Port) (f : PortInterface → PortInterface) : KeepsReference fun s => s.modPort p f :=
  fun _ h => h.congr rfl

theorem actDetach_sound (p : Port) : ActKeepsReference (actDetach p) := fun s h =>
  modPort_sound p _ _ (modEvents_sound p _ _ (detachMarks_sound p _ (detachClaim_sound p _
    (releaseTracksOf_sound p _ (detachEntries_sound p s h)))))

/-! ### Every command -/

theorem requestAct_sound {i : Instr} {act : State → State × Reply} (e : requestAct i = some act) :
    ActKeepsReference act := by
  cases i <;> simp only [requestAct, Option.some.injEq, reduceCtorEq] at e <;> subst e
  case freerunOn p => exact actFreerunOn_sound p
  case freerunOff p => exact actFreerunOff_sound p
  case restartReference p => exact actRestartReference_sound p
  case clearCounters p => exact actClearCounters_sound p
  case allocEntry p => exact actAllocEntry_sound p
  case writeEntry p index image => exact actWriteEntry_sound p index image
  case readEntry index => exact actReadEntry_sound index
  case armEntry p index => exact actArmEntry_sound p index
  case holdEntry p index => exact actHoldEntry_sound p index
  case freeEntry p index => exact actFreeEntry_sound p index
  case modifyFlags p index setMask clearMask => exact actModifyFlags_sound p index setMask clearMask
  case assignTrack p track => exact actAssignTrack_sound p track
  case releaseTrack p track => exact actReleaseTrack_sound p track
  case setTrack p track polarity safe onLoss => exact actSetTrack_sound p track polarity safe onLoss
  case driveTrack p track value => exact actDriveTrack_sound p track value
  case readTrack track => exact actReadTrack_sound track
  case popEvent p => exact actPopEvent_sound p
  case readLatest p slot => exact actReadLatest_sound p slot
  case writeSlot p slot image => exact actWriteSlot_sound p slot image
  case readSlot p slot => exact actReadSlot_sound p slot
  case setAttnMask p causes watermark => exact actSetAttnMask_sound p causes watermark
  case requestClaim p => exact actRequestClaim_sound p
  case withdraw p => exact actWithdraw_sound p
  case releaseClaim p => exact actReleaseClaim_sound p
  case stageParam p id value => exact actStageParam_sound p id value
  case readParam id selector => exact actReadParam_sound id selector
  case commit p => exact actCommit_sound p
  case discard p => exact actDiscard_sound p
  case setQuota p target quota => exact actSetQuota_sound p target quota
  case detach p => exact actDetach_sound p
  all_goals exact fun _ h => h.congr rfl

/-- A request command takes the request, and is carried out by the act of its block (log entry 6). -/
theorem exec_of_requestAct {i : Instr} {act : State → State × Reply} (e : requestAct i = some act) (s : State) :
    ∃ p, exec i s = .next (takeRequest p i act s) := by
  cases i <;> simp only [requestAct, Option.some.injEq, reduceCtorEq] at e <;> subst e <;> exact ⟨_, rfl⟩

theorem answerRequest_sound {act : State → State × Reply} (keeps : ActKeepsReference act) (p : Port)
    (bits : List Bool) : KeepsReference (answerRequest p bits act) := fun s h => (keeps s h).congr rfl

theorem takeRequest_sound {act : State → State × Reply} (keeps : ActKeepsReference act) (p : Port) (i : Instr) :
    KeepsReference (takeRequest p i act) := by
  intro s h
  unfold takeRequest
  split
  · exact h
  · split
    · exact answerRequest_sound keeps p _ s h
    · exact h

/-- A clock edge changes a port, and the request that it completes does the rest (R186, R187). -/
theorem clockEdge_sound (p : Port) (rising sdi : Bool) : KeepsReference (clockEdge p rising sdi) := by
  intro s h
  have rises : ReferenceSound (risingEdge p sdi s) := by
    unfold risingEdge
    split
    · exact h.congr rfl
    · exact h.congr rfl
    · exact h.congr rfl
    · exact h.congr rfl
    · split
      · exact h.congr rfl
      · next act e =>
          obtain ⟨i, -, hi⟩ := Option.bind_eq_some_iff.1 e
          exact answerRequest_sound (requestAct_sound hi) p _ s h
  unfold clockEdge
  split
  · exact h
  · split
    · exact h.congr rfl
    · split
      · exact rises
      · exact h.congr rfl

theorem completeRead_sound (p : Port) : KeepsReference (completeRead p) := fun _ h => h.congr rfl

theorem removeMarks_sound (p : Port) : KeepsReference (removeMarks p) := fun _ h => h.congr rfl

theorem selectRises_sound (p : Port) : KeepsReference (selectRises p) := by
  refine fun s h => modPort_sound p _ _ (removeMarks_sound p _ ?_)
  split
  · exact completeRead_sound p s h
  · exact h

/-- An event of the inputs, of the clock or of a port's lines answers a next state that keeps the laws. -/
theorem exec_event_sound {i : Instr} (e : requestAct i = none) {s : State} (h : ReferenceSound s) :
    ∃ t, exec i s = .next t ∧ ReferenceSound t := by
  cases i <;> simp only [requestAct, reduceCtorEq] at e <;> refine ⟨_, rfl, ?_⟩
  case deviceReset => exact holdInReset_sound s
  case serialClockEdge p rising sdi => exact clockEdge_sound p rising sdi s h
  case selectFall p => exact h.congr rfl
  all_goals split
  case rawLevelChange.isTrue => exact holdInReset_sound _
  case rawLevelChange.isFalse line level _ => exact rawChange_sound line level s h
  case runExpiry.isTrue line _ => exact filteredTransition_sound applyPending_sound line s h
  case gapCountExpiry.isTrue => exact h.congr rfl
  case standstillExpiry.isTrue => exact standstillExpires_sound applyPending_sound s h
  case missDeadlineExpiry.isTrue due => exact synthStep_sound_of_due h due
  case freeStep.isTrue due => exact freeRunStep_sound_of_due h due
  case ticketDue.isTrue => exact fireFirstTicket_sound s h
  case pulseEnd.isTrue => exact h.congr rfl
  case selectRise.isFalse p _ => exact selectRises_sound p s h
  all_goals exact h

theorem exec_sound {i : Instr} {s t : State} (h : ReferenceSound s) (e : exec i s = .next t) : ReferenceSound t := by
  cases hi : requestAct i with
  | some act =>
      obtain ⟨p, taken⟩ := exec_of_requestAct hi s
      obtain rfl : takeRequest p i act s = t := Host.Outcome.next.inj (taken.symm.trans e)
      exact takeRequest_sound (requestAct_sound hi) p i s h
  | none =>
      obtain ⟨u, hu, sound⟩ := exec_event_sound hi h
      exact Host.Outcome.next.inj (hu.symm.trans e) ▸ sound

theorem ownStep_sound {s t : State} (h : ReferenceSound s) (e : ownStep s = .next t) : ReferenceSound t := by
  unfold ownStep at e
  split at e
  · exact Host.Outcome.next.inj e ▸ tick_sound s h
  · exact exec_sound h e
  · exact exec_sound (s := { s with freeCount := s.freeCount + 1 }) (h.congr rfl) e

theorem step_sound {s t : State} (h : ReferenceSound s) (e : step s = .next t) : ReferenceSound t := by
  unfold step at e
  split at e
  · exact ownStep_sound h e
  · next rest _ => exact exec_sound (s := { s with pending := rest }) (h.congr rfl) e

/-- Settles O58: the four laws together are kept by every operation, and so by every step. -/
theorem everyStepKeepsTheReferenceSound : Obligations.EveryStepKeepsTheReferenceSound := by
  intro s t angle lock configuration history e
  obtain ⟨angle', lock', configuration', history'⟩ := step_sound ⟨angle, lock, configuration, history⟩ e
  exact ⟨angle', lock', configuration', history'⟩

end Sys2Proof.Proofs
end

section
/-! PROOFS. A real edge (01, 02, 03): it is measured, opens a blanking window and gives notice, and AG takes it by the lock
state: with no step (R38, R52, R57), as a late acceptance (R43, R44) or as ALIGN (R46, R62). -/

namespace Sys2Proof.Proofs

open Sys2Proof Sys2Proof.Machine Sys2Proof.Safety

/-! ### What measuring an edge leaves unchanged (R17) -/

/-- The interval is taken into the history alone. -/
theorem takeInterval_with_eq (n : Nat) (s : State) (q : EdgeQualifier) :
    takeInterval n { s with eq := q } = { s with eq := q, pt := (takeInterval n s).pt } := by
  by_cases jump : isSpeedStep s.cc.active s.estimate n = true
  · rw [takeInterval_of_speedStep jump, takeInterval_of_speedStep (s := { s with eq := q }) jump]
  · have steady := Bool.eq_false_iff.2 jump
    rw [takeInterval_of_no_speedStep steady, takeInterval_of_no_speedStep (s := { s with eq := q }) steady]
    rfl

theorem closeInterval_with_eq (n : Nat) (s : State) (q : EdgeQualifier) :
    closeInterval n { s with eq := q } =
      { s with eq := q, pt := (closeInterval n s).pt, freeCount := (closeInterval n s).freeCount } := by
  unfold closeInterval
  split
  · rw [takeInterval_with_eq _ { s with freeCount := s.freeCount + 1 } q,
      takeInterval_with_eq _ { s with freeCount := s.freeCount + 1 } s.eq]
  · rw [takeInterval_with_eq n s q, takeInterval_with_eq n s s.eq]

theorem measureEdge_with_eq (s : State) (q : EdgeQualifier) :
    measureEdge { s with eq := q } =
      { s with eq := q, pt := (measureEdge s).pt, freeCount := (measureEdge s).freeCount } := by
  unfold measureEdge
  simp only
  split
  · rfl
  · split
    · rfl
    · split
      · rfl
      · split
        · exact closeInterval_with_eq _ s q
        · rfl
        · rfl

/-- R17: PT takes the edge, and no other block; what EQ holds makes no difference. -/
theorem trackEdge_with_eq (s : State) (q : EdgeQualifier) :
    trackEdge { s with eq := q } =
      { s with eq := q, pt := (trackEdge s).pt, freeCount := (trackEdge s).freeCount } := by
  have stamp : (measureEdge s).stamp = s.stamp := by rw [measureEdge_with_eq s s.eq]
  unfold trackEdge
  simp only [measureEdge_with_eq s q, stamp]

theorem trackEdge_frame (s : State) :
    trackEdge s = { s with pt := (trackEdge s).pt, freeCount := (trackEdge s).freeCount } := trackEdge_with_eq s s.eq

@[simp] theorem trackEdge_resetLow (s : State) : (trackEdge s).resetLow = s.resetLow := by rw [trackEdge_frame]
@[simp] theorem trackEdge_stamp (s : State) : (trackEdge s).stamp = s.stamp := by rw [trackEdge_frame]
@[simp] theorem trackEdge_eq (s : State) : (trackEdge s).eq = s.eq := by rw [trackEdge_frame]
@[simp] theorem trackEdge_ag (s : State) : (trackEdge s).ag = s.ag := by rw [trackEdge_frame]
@[simp] theorem trackEdge_ls (s : State) : (trackEdge s).ls = s.ls := by rw [trackEdge_frame]
@[simp] theorem trackEdge_ctc (s : State) : (trackEdge s).ctc = s.ctc := by rw [trackEdge_frame]
@[simp] theorem trackEdge_fs (s : State) : (trackEdge s).fs = s.fs := by rw [trackEdge_frame]
@[simp] theorem trackEdge_td (s : State) : (trackEdge s).td = s.td := by rw [trackEdge_frame]
@[simp] theorem trackEdge_er (s : State) : (trackEdge s).er = s.er := by rw [trackEdge_frame]
@[simp] theorem trackEdge_cc (s : State) : (trackEdge s).cc = s.cc := by rw [trackEdge_frame]
@[simp] theorem trackEdge_pi (s : State) : (trackEdge s).pi = s.pi := by rw [trackEdge_frame]
@[simp] theorem trackEdge_pending (s : State) : (trackEdge s).pending = s.pending := by rw [trackEdge_frame]

/-! ### A real edge up to AG (R5, R6) -/

/-- The hub when AG takes the real edge that the run of TOOTH gives: EQ and PT have taken it. -/
def measured (s : State) : State :=
  { trackEdge s with eq := { s.eq with
    tooth := ⟨s.eq.tooth.raw, s.eq.tooth.raw, none⟩
    window := windowOpened s.stamp s.cc.active.blanking (trackEdge s).estimate } }

theorem openBlanking_eq (s : State) :
    openBlanking s =
      { s with eq := { s.eq with window := windowOpened s.stamp s.cc.active.blanking s.estimate } } := by
  unfold openBlanking
  cases h : s.estimate <;> rfl

theorem openBlanking_trackEdge_settleLine (s : State) :
    openBlanking (trackEdge (settleLine .tooth s)) = measured s := by
  have settled : settleLine .tooth s =
      { s with eq := { s.eq with tooth := ⟨s.eq.tooth.raw, s.eq.tooth.raw, none⟩ } } := rfl
  rw [openBlanking_eq, settled, trackEdge_with_eq, measured]
  conv_rhs => rw [trackEdge_frame]
  rfl

/-- R6: a TOOTH run that expires outside the blanking window with an edge of the line is a real edge. -/
theorem filteredTransition_of_realEdge (ap : State → State) {s : State}
    (accepted : s.cc.active.toothPolarity.accepts s.eq.tooth.raw = true) (clear : inBlanking s = false) :
    filteredTransition ap .tooth s = generatorEdge ap (measured s) := by
  have clearStill : ¬inBlanking (settleLine .tooth s) = true := by
    show ¬inBlanking s = true
    simp [clear]
  rw [filteredTransition_tooth, if_pos accepted, toothEdge, if_neg clearStill, openBlanking_trackEdge_settleLine]

/-! ### AG takes the edge (R38, R52, R57) -/

/-- The notice is given and the synthesized-since-real flag is clear. -/
def noticed (s : State) : State :=
  { realEdgeNotice s with ag := { (realEdgeNotice s).ag with synthSinceReal := false } }

theorem noticed_of_not_stopped {s : State} (h : s.ls.lock ≠ .stopped) :
    noticed s = { s with
      ls := { s.ls with standstill := .running 0 }
      ag := { s.ag with synthSinceReal := false } } := by
  rw [noticed, realEdgeNotice_of_not_stopped h]
  rfl

/-- R57, R68: in STOPPED the notice takes the hub to SEARCH. -/
theorem noticed_of_stopped {s : State} (h : s.ls.lock = .stopped) :
    noticed s = { s with
      eq := { s.eq with cycleNoise := 0, window := none }
      pt := { s.pt with history := [] }
      ls := { s.ls with
        lock := .search
        settle := 0
        clean := 0
        noisy := 0
        indexMiss := 0
        synthInCycle := false
        standstill := .running 0
        lockMarks := Vector.replicate 4 false }
      ag := { invalidAngle s.ag with synthSinceReal := false }
      er := lockCaused true s.er } := by
  have falls : realEdgeNotice s = fall .search (setStandstill (.running 0) s) := if_pos h
  have moves : (if LockState.search = s.ls.lock then s.ls.lockMarks else Vector.replicate 4 false)
      = Vector.replicate 4 false := if_neg (by simp [h])
  have told : (LockState.search != s.ls.lock) = true := by simp [h]
  simp only [noticed, falls, fall_eq, setStandstill, moves, told]

theorem generatorEdge_without_step (ap : State → State) {s : State}
    (h : s.ls.lock = .stopped ∨ s.ls.lock = .freerun ∨ (s.ls.lock = .search ∧ s.ag.indexPending = false)) :
    generatorEdge ap s = noticed s := by
  rcases h with stopped | freerun | ⟨search, clear⟩
  · simp only [generatorEdge, stopped, noticed]
  · simp only [generatorEdge, freerun, noticed]
  · simp only [generatorEdge, search, clear, noticed, Bool.false_eq_true, if_false]

theorem generatorEdge_of_align (ap : State → State) {s : State} (search : s.ls.lock = .search)
    (pending : s.ag.indexPending = true) : generatorEdge ap s = alignStep ap (noticed s) := by
  simp only [generatorEdge, search, pending, noticed, if_true]

theorem generatorEdge_of_angle (ap : State → State) {s : State}
    (h : s.ls.lock = .acquire ∨ s.ls.lock = .locked ∨ s.ls.lock = .holdover) :
    generatorEdge ap s = if inLateWindow s then lateAcceptance (noticed s) else realStep ap (noticed s) := by
  rcases h with acquire | locked | holdover
  · simp only [generatorEdge, acquire, noticed]
  · simp only [generatorEdge, locked, noticed]
  · simp only [generatorEdge, holdover, noticed]

/-- Settles O12: AG makes no step in these states, and in STOPPED the notice is the entry into SEARCH. -/
theorem realEdgesWithoutAStep : Obligations.RealEdgesWithoutAStep := by
  refine fun s due accepted clear => ⟨_, _, rfl, rfl, fun calm => ?_, fun stopped => ?_⟩
  · have running : (measured s).ls.lock ≠ .stopped := by
      rcases calm with freerun | ⟨search, -⟩ <;> simp [measured, *]
    have without : (measured s).ls.lock = .stopped ∨ (measured s).ls.lock = .freerun
        ∨ ((measured s).ls.lock = .search ∧ (measured s).ag.indexPending = false) := by
      simpa [measured] using Or.inr calm
    rw [exec_runExpiry_of_due due, filteredTransition_of_realEdge _ accepted clear, generatorEdge_without_step _ without,
      noticed_of_not_stopped running]
    simp only [measured, trackEdge_ls, trackEdge_ag]
  · have stoppedStill : (measured s).ls.lock = .stopped := by simpa [measured] using stopped
    rw [exec_runExpiry_of_due due, filteredTransition_of_realEdge _ accepted clear,
      generatorEdge_without_step _ (.inl stoppedStill), noticed_of_stopped stoppedStill]
    simp only [measured, trackEdge_ls, trackEdge_ag, trackEdge_er]

/-! ### Late acceptance (R40, R43, R44) -/

/-- R40: the deadline that a real edge sets while the angle is valid. -/
theorem anchorReal_of_valid {s : State} (valid : s.ag.valid = true) (freerun : s.ls.lock ≠ .freerun) :
    anchorReal s = { s with ag := { s.ag with
      missCount := 0
      lateWindow := none
      deadline := s.estimate.map fun e => min (e * (16 + s.cc.active.missMargin) / 16) 16777215 } } := by
  have judged : (s.ag.valid && s.ls.lock != .freerun) = true := by simp [valid, freerun]
  have deadline : (if (s.ag.valid && s.ls.lock != .freerun) = true then
      s.estimate.map (deadlineFor .real s.cc.active.missMargin) else none)
      = s.estimate.map fun e => min (e * (16 + s.cc.active.missMargin) / 16) 16777215 := if_pos judged
  simp only [anchorReal, setDeadline, State.estimate] at deadline ⊢
  rw [deadline]

theorem inLateWindow_iff (s : State) : inLateWindow s = true ↔ ∃ w, s.ag.lateWindow = some w ∧ s.ag.timer < w := by
  unfold inLateWindow
  cases s.ag.lateWindow <;> simp

theorem inLateWindow_measured (s : State) : inLateWindow (measured s) = inLateWindow s := by
  simp only [inLateWindow, measured, trackEdge_ag]

/-- Settles O13: within the late window the edge anchors the tooth in place of a step. -/
theorem lateAcceptanceAnchorsTheTooth : Obligations.LateAcceptanceAnchorsTheTooth := by
  intro w s due accepted clear lock window within valid
  have lockStill : (measured s).ls.lock = .acquire ∨ (measured s).ls.lock = .locked ∨ (measured s).ls.lock = .holdover := by
    simpa [measured] using lock
  have late : inLateWindow (measured s) = true := by
    rw [inLateWindow_measured]
    exact (inLateWindow_iff s).2 ⟨w, window, within⟩
  have running : (measured s).ls.lock ≠ .stopped := by rcases lockStill with e | e | e <;> simp [e]
  have freerun : s.ls.lock ≠ .freerun := by rcases lock with e | e | e <;> simp [e]
  rw [exec_runExpiry_of_due due, filteredTransition_of_realEdge _ accepted clear, generatorEdge_of_angle _ lockStill,
    if_pos late, noticed_of_not_stopped running, lateAcceptance, anchorReal_of_valid]
  · simp only [measured, trackEdge_ls, trackEdge_ag, trackEdge_stamp, trackEdge_cc]
    rfl
  · simpa [measured] using valid
  · simpa [measured] using freerun

end Sys2Proof.Proofs
end

section
/-! PROOFS. The step that AG makes (03, 04): LS judges it and moves the lock state, and what is done before it reaches FS is
`handedOn` (R35, R56, R58 to R69); the REAL, ALIGN and FREE steps (R39, R46, R47, R51, R62, R71). -/

namespace Sys2Proof.Proofs

open Sys2Proof Sys2Proof.Machine Sys2Proof.Safety

/-! ### A step at FS where no commit waits, and outside the firing set (R105 to R109) -/

theorem schedulerStep_frame (rep : StepReport) {s : State} (h : s.cc.pendingRecord = none) :
    FiringFrame s (schedulerStep applyPending rep s) := by
  have flushed := stepFlush_frame (toothAngle s.cc.active.toothCount rep.tooth) rep.cycle s
  refine flushed.trans (FiringFrame.trans ?_ (stepEnumeration_frame rep _))
  unfold stepActivation
  split
  · rw [applyPending_none]
    · exact activateArming_frame _
    · simp only [activateArming_cc, flushed.cc, h]
  · exact .refl _

/-- Where no commit waits, FS leaves what the blocks of the reference path and the claim have reached. -/
theorem blocks_of_schedulerStep {rep : StepReport} {u t : State} (h : u.cc.pendingRecord = none)
    (step : t = schedulerStep applyPending rep u) :
    t.ag = u.ag ∧ t.ls = u.ls ∧ t.pt = u.pt ∧ t.eq = u.eq ∧ t.cc = u.cc := by
  have frame := schedulerStep_frame rep h
  rw [step]
  exact ⟨frame.ag, frame.ls, frame.pt, frame.eq, frame.cc⟩

theorem stepActivation_outside (ap : State → State) (rep : StepReport) {s : State} (h : s.inFiring = false) :
    stepActivation ap rep s = s := if_neg (by simp [h])

theorem stepEnumeration_outside (rep : StepReport) {s : State} (h : s.inFiring = false) : stepEnumeration rep s = s :=
  if_neg (by simp [h])

theorem clearTaken_eq (cycle : Cycle) (s : State) :
    clearTaken cycle s = { s with fs := { s.fs with
      taken := if cycle = s.fs.cycleSeen then s.fs.taken else Vector.replicate 64 ⟨false, false⟩
      cycleSeen := cycle } } := by
  unfold clearTaken
  split
  · next same => simp only [same]
  · rfl

/-- R107: an empty deferred list keeps no recorded cycle (log entry 23). -/
theorem flushDeferred_of_nil (angle : Nat) {s : State} (h : s.fs.deferred = []) :
    flushDeferred angle s = { s with fs := { s.fs with deferredCycle := none } } := by
  simp only [flushDeferred, h, List.length_nil, fireDeferred]

/-- R109, R110: outside the firing set a step activates and enumerates nothing. -/
theorem schedulerStep_outside (ap : State → State) (rep : StepReport) {s : State} (h : s.inFiring = false) :
    schedulerStep ap rep s =
      clearTaken rep.cycle (flushDeferred (toothAngle s.cc.active.toothCount rep.tooth)
        (flushTickets (toothAngle s.cc.active.toothCount rep.tooth) s.fs.tickets.length s)) := by
  have outside := (stepFlush_frame (toothAngle s.cc.active.toothCount rep.tooth) rep.cycle s).inFiring.trans h
  exact (congrArg (stepEnumeration rep) (stepActivation_outside ap rep outside)).trans
    (stepEnumeration_outside rep outside)

/-- R107, R108: with nothing listed and outside the firing set FS takes the cycle seen and no more. -/
theorem schedulerStep_of_quiet (ap : State → State) (rep : StepReport) {s : State} (tickets : s.fs.tickets = [])
    (deferred : s.fs.deferred = []) (outside : s.inFiring = false) :
    schedulerStep ap rep s = { s with fs := { s.fs with
      deferredCycle := none
      taken := if rep.cycle = s.fs.cycleSeen then s.fs.taken else Vector.replicate 64 ⟨false, false⟩
      cycleSeen := rep.cycle } } := by
  rw [schedulerStep_outside ap rep outside, tickets, List.length_nil, flushTickets, flushDeferred_of_nil _ deferred,
    clearTaken_eq]

/-! ### The judgement (R59, R60) -/

theorem noteSynth_eq (rep : StepReport) (s : State) :
    noteSynth rep s = { s with ls := { s.ls with synthInCycle := s.ls.synthInCycle || rep.kind == .synth } } := by
  unfold noteSynth
  split
  · next synth => simp [synth]
  · next other =>
      have off : (rep.kind == StepKind.synth) = false := by simpa using other
      simp only [off, Bool.or_false]

theorem indexMissAfter_eq (finding : Finding) (n : Nat) :
    indexMissAfter finding n =
      if finding = .matched then 0 else if finding = .miss then min (n + 1) 255 else n := by
  cases finding <;> rfl

theorem judgeStep_noteSynth (rep : StepReport) (s : State) :
    judgeStep rep (noteSynth rep s) = { s with ls := judged s.cc.active rep s.ls } := by
  rw [noteSynth_eq]
  by_cases zero : rep.tooth = 0
  · simp only [judgeStep, judged, zero, ne_eq, not_true_eq_false, if_true, if_false, judgeCycle, indexMissAfter_eq,
      cycleNoisy, decide_eq_true_eq]
    rfl
  · simp only [judgeStep, judged, zero, ne_eq, not_false_eq_true, if_true, if_false]

@[simp] theorem judged_lock (c : RefConfig) (rep : StepReport) (l : LockSupervisor) : (judged c rep l).lock = l.lock := by
  unfold judged
  simp only
  split <;> rfl

@[simp] theorem judged_settle (c : RefConfig) (rep : StepReport) (l : LockSupervisor) :
    (judged c rep l).settle = l.settle := by
  unfold judged
  simp only
  split <;> rfl

@[simp] theorem judged_lockMarks (c : RefConfig) (rep : StepReport) (l : LockSupervisor) :
    (judged c rep l).lockMarks = l.lockMarks := by
  unfold judged
  simp only
  split <;> rfl

@[simp] theorem judged_standstill (c : RefConfig) (rep : StepReport) (l : LockSupervisor) :
    (judged c rep l).standstill = l.standstill := by
  unfold judged
  simp only
  split <;> rfl

/-! ### What is done between the judgement and FS (R56, R58, R126, R127) -/

/-- What a step that LS judges has reached before the teardown, the entry into HOLDOVER and the way on to STOPPED. -/
def judgedState (rep : StepReport) (s : State) : State :=
  { s with
    ls := lockAfter s.cc.active rep s.ls
    pt := { s.pt with
      history := trimmed s.cc.active s.ls.lock (lockAfter s.cc.active rep s.ls).lock s.pt.history }
    er := lockCaused (lockTold s.ls (lockAfter s.cc.active rep s.ls)) s.er }

/-- R22, R76: the move of the lock state that the judgement j asks for. -/
theorem moveLock_eq_judgedState {rep : StepReport} {s : State} {j : LockSupervisor} {l : LockState}
    (lock : j.lock = s.ls.lock) (moves : l ≠ s.ls.lock)
    (moved : lockMoved s.cc.active rep s.ls = { j with lock := l }) :
    moveLock l { s with ls := j } = judgedState rep s := by
  have told : (l != s.ls.lock) = true := by simpa using moves
  have toldAfter : lockTold s.ls (lockMoved s.cc.active rep s.ls) = true := by simp [lockTold, moved, told]
  have after : lockAfter s.cc.active rep s.ls = { j with lock := l, lockMarks := Vector.replicate 4 false } := by
    rw [lockAfter, if_pos toldAfter, moved]
  have toldState : lockTold s.ls { j with lock := l, lockMarks := Vector.replicate 4 false } = true := by
    simp [lockTold, told]
  rw [moveLock_eq, judgedState, after, toldState]
  simp only [lock, told, if_neg moves]

/-- R76: a step that leaves the lock state and counts no settle to 0 sets no LOCK cause. -/
theorem judgedState_of_untold {rep : StepReport} {s : State} (lock : (lockMoved s.cc.active rep s.ls).lock = s.ls.lock)
    (marks : (lockMoved s.cc.active rep s.ls).lockMarks = s.ls.lockMarks)
    (untold : lockTold s.ls (lockMoved s.cc.active rep s.ls) = false) :
    judgedState rep s = { s with ls := lockMoved s.cc.active rep s.ls } := by
  have after : lockAfter s.cc.active rep s.ls = lockMoved s.cc.active rep s.ls := by
    rw [lockAfter, untold, ← marks]
    rfl
  rw [judgedState, after, untold, lock, trimmed_self, lockCaused_false]

theorem inFiring_congr {s t : State} (lock : t.ls.lock = s.ls.lock) (settle : t.ls.settle = s.ls.settle) :
    t.inFiring = s.inFiring := by
  simp only [State.inFiring, LockSupervisor.inFiring, lock, settle]

theorem departFrom_congr (ap : State → State) {a b : State} (h : a.inFiring = b.inFiring) (s : State) :
    departFrom ap a s = departFrom ap b s := by
  simp only [departFrom, h]

/-- R58: the way on from SEARCH or ACQUIRE to STOPPED is that entry's fall. -/
theorem onToStopped_eq_fall {s : State} (h : s.ls.lock = .search ∨ s.ls.lock = .acquire) :
    onToStopped s = fall .stopped s := by
  have moves : LockState.stopped ≠ s.ls.lock := by rcases h with e | e <;> simp [e]
  have told : (LockState.stopped != s.ls.lock) = true := by simpa using moves
  rw [fall_eq, told, if_neg moves, onToStopped]

theorem goOnToStopped_eq (s : State) :
    goOnToStopped s =
      if (s.ls.lock = .search ∨ s.ls.lock = .acquire) ∧ s.ls.standstill = .expired then onToStopped s else s := by
  unfold goOnToStopped
  split
  · next h => rw [onToStopped_eq_fall h.1]
  · rfl

/-- After the teardown of a departure, or FS's part of the entry into HOLDOVER, and before the way on to STOPPED. -/
def departed (s u : State) : State :=
  if s.inFiring = true ∧ u.inFiring = false then teardown applyPending u
  else if s.ls.lock ≠ .holdover ∧ u.ls.lock = .holdover then holdoverDiscard u
  else u

theorem handedOn_eq (s u : State) :
    handedOn s u =
      if u.ls.lock ≠ s.ls.lock ∧ ((departed s u).ls.lock = .search ∨ (departed s u).ls.lock = .acquire)
          ∧ (departed s u).ls.standstill = .expired then onToStopped (departed s u)
      else departed s u := rfl

/-- A step that stays in the firing set or outside it, in the state it found or in LOCKED, is handed on as it is. -/
theorem handedOn_of_stays {s u : State} (firing : s.inFiring = true → u.inFiring = true)
    (lock : u.ls.lock = s.ls.lock ∨ u.ls.lock = .locked) : handedOn s u = u := by
  have stays : ¬(s.inFiring = true ∧ u.inFiring = false) := fun ⟨inside, outside⟩ =>
    Bool.false_ne_true (outside.symm.trans (firing inside))
  have noHoldover : ¬(s.ls.lock ≠ .holdover ∧ u.ls.lock = .holdover) := by
    rintro ⟨other, holdover⟩
    rcases lock with same | locked
    · exact other (same ▸ holdover)
    · simp [locked] at holdover
  rw [handedOn_eq, departed, if_neg stays, if_neg noHoldover]
  refine if_neg ?_
  rintro ⟨moved, low, -⟩
  rcases lock with same | locked
  · exact moved same
  · simp [locked] at low

/-- R69: a departure into ACQUIRE. -/
theorem handedOn_of_acquire {s u : State} (acquire : u.ls.lock = .acquire) (other : s.ls.lock ≠ .acquire) :
    handedOn s u = goOnToStopped (departFrom applyPending s u) := by
  have outside : u.inFiring = false := by simp only [State.inFiring, LockSupervisor.inFiring, acquire]
  have moved : u.ls.lock ≠ s.ls.lock := by
    rw [acquire]
    exact other.symm
  have departs : departed s u = departFrom applyPending s u := by
    simp only [departed, departFrom, outside, acquire, reduceCtorEq, and_true, and_false, if_false]
  rw [handedOn_eq, departs, goOnToStopped_eq]
  simp only [moved, ne_eq, not_false_eq_true, true_and]

/-- Where no commit waits and the timer has not expired, all of it is FS's own work. -/
theorem handedOn_frame {s u : State} (commitFree : u.cc.pendingRecord = none) (timer : u.ls.standstill ≠ .expired) :
    FiringFrame u (handedOn s u) := by
  have torn : FiringFrame u (teardown applyPending u) := by
    have parts := teardownParts_frame u
    rw [teardown, applyPending_none _ (by rw [parts.cc]; exact commitFree)]
    exact parts
  have frame : FiringFrame u (departed s u) := by
    unfold departed
    split
    · exact torn
    · split
      · exact holdoverDiscard_frame u
      · exact .refl u
  rw [handedOn_eq, if_neg]
  · exact frame
  · rintro ⟨-, -, expired⟩
    rw [frame.ls] at expired
    exact timer expired

/-! ### The moves of the lock state, as they are handed on (R63 to R67) -/

/-- R69: the entry into ACQUIRE from LOCKED or HOLDOVER, with the teardown where it leaves the firing set. -/
theorem enterAcquire_eq_handedOn {rep : StepReport} {before s : State} {j : LockSupervisor} (same : j.lock = s.ls.lock)
    (sameSettle : j.settle = s.ls.settle) (lock : before.ls.lock = s.ls.lock) (settle : before.ls.settle = s.ls.settle)
    (other : s.ls.lock ≠ .acquire) (moved : lockMoved s.cc.active rep s.ls = toAcquire j) :
    enterAcquire applyPending { s with ls := j } = handedOn before (judgedState rep s) := by
  have moves : moveLock .acquire { s with ls := { j with clean := 0, settle := 0, synthInCycle := false } }
      = judgedState rep s := moveLock_eq_judgedState same other.symm moved
  have acquire : (judgedState rep s).ls.lock = .acquire := by
    rw [← moves, moveLock_eq]
  have sameSet : ({ s with ls := j } : State).inFiring = before.inFiring :=
    inFiring_congr (same.trans lock.symm) (sameSettle.trans settle.symm)
  rw [handedOn_of_acquire acquire (lock ▸ other), ← departFrom_congr applyPending sameSet, ← moves]
  rfl

/-- R65: the entry into LOCKED from ACQUIRE, or from HOLDOVER with no settle, stays on its side of the firing set. -/
theorem enterLocked_eq_handedOn {rep : StepReport} {before s : State} {j : LockSupervisor} {n : Nat} (same : j.lock = s.ls.lock)
    (firing : before.inFiring = true → n = 0) (other : s.ls.lock ≠ .locked)
    (moved : lockMoved s.cc.active rep s.ls = { j with lock := .locked, settle := n }) :
    enterLocked n { s with ls := j } = handedOn before (judgedState rep s) := by
  have moves : moveLock .locked { s with ls := { j with settle := n } } = judgedState rep s :=
    moveLock_eq_judgedState same other.symm moved
  have locked : (judgedState rep s).ls.lock = .locked ∧ (judgedState rep s).ls.settle = n := by
    rw [← moves, moveLock_eq]
    exact ⟨rfl, rfl⟩
  rw [handedOn_of_stays _ (.inr locked.1)]
  · exact moves
  · intro inside
    simp only [State.inFiring, LockSupervisor.inFiring, locked, firing inside, beq_self_eq_true]

/-- A step that moves no lock state, outside LOCKED or with the settle as it was, leaves the judgement alone. -/
theorem judged_eq_handedOn {rep : StepReport} {before s : State} (lock : before.ls.lock = s.ls.lock)
    (settle : before.ls.settle = s.ls.settle) (moved : lockMoved s.cc.active rep s.ls = judged s.cc.active rep s.ls) :
    { s with ls := judged s.cc.active rep s.ls } = handedOn before (judgedState rep s) := by
  have untold : lockTold s.ls (judged s.cc.active rep s.ls) = false := by
    simp only [lockTold, judged_lock, judged_settle, bne_self_eq_false, Bool.false_or]
    cases h : s.ls.settle == 1
    · simp
    · simp [beq_iff_eq.1 h]
  have stays : judgedState rep s = { s with ls := judged s.cc.active rep s.ls } := by
    rw [judgedState_of_untold] <;> simp only [moved, judged_lock, judged_lockMarks, untold]
  have firing : (judgedState rep s).inFiring = before.inFiring := by
    rw [stays]
    exact inFiring_congr ((judged_lock _ _ _).trans lock.symm) ((judged_settle _ _ _).trans settle.symm)
  rw [handedOn_of_stays (fun inside => firing.trans inside), stays]
  left
  rw [stays]
  exact (judged_lock _ _ _).trans lock.symm

/-- R65, R76: a tooth-0 step that stays LOCKED counts down the settle, and tells where it reaches 0. -/
theorem countSettle_eq_handedOn {rep : StepReport} {before s : State} {j : LockSupervisor} (same : j.lock = s.ls.lock)
    (sameSettle : j.settle = s.ls.settle) (marks : j.lockMarks = s.ls.lockMarks) (lock : before.ls.lock = s.ls.lock)
    (settle : before.ls.settle = s.ls.settle) (locked : s.ls.lock = .locked)
    (moved : lockMoved s.cc.active rep s.ls = { j with settle := j.settle - 1 }) :
    countSettle { s with ls := j } = handedOn before (judgedState rep s) := by
  have told : lockTold s.ls (lockMoved s.cc.active rep s.ls) = decide (j.settle = 1) := by
    simp only [lockTold, moved, same, sameSettle, locked, bne_self_eq_false, Bool.false_or, beq_self_eq_true,
      Bool.true_and]
    grind
  have counted : countSettle { s with ls := j } = judgedState rep s := by
    by_cases last : j.settle = 1
    · have after : lockAfter s.cc.active rep s.ls =
          { j with settle := j.settle - 1, lockMarks := Vector.replicate 4 false } := by
        rw [lockAfter, told, moved, if_pos (decide_eq_true last)]
      have toldAfter : lockTold s.ls (lockAfter s.cc.active rep s.ls) = true := by
        rw [after, ← decide_eq_true last, ← told, moved]
        rfl
      rw [judgedState, toldAfter, after, lockCaused_true]
      simp only [countSettle, setLockCause, last, Nat.one_ne_zero, if_false, if_true, same, trimmed_self]
    · rw [judgedState_of_untold]
      · unfold countSettle
        rw [moved]
        split
        · next zero =>
            have none : j.settle = 0 := zero
            have unchanged : j.settle - 1 = j.settle := by omega
            simp only [unchanged]
        · rfl
      · simp [moved, same]
      · simp [moved, marks]
      · simp [told, last]
  have lockStays : (judgedState rep s).ls.lock = .locked := by
    simp only [judgedState, lockAfter, moved, same, locked]
  have settleAfter : (judgedState rep s).ls.settle = before.ls.settle - 1 := by
    simp only [judgedState, lockAfter, moved, sameSettle, settle]
  rw [counted, handedOn_of_stays _ (.inr lockStays)]
  intro inside
  simp only [State.inFiring, LockSupervisor.inFiring, lock, locked, lockStays, settleAfter, beq_iff_eq] at inside ⊢
  simp [inside]

/-! ### A step of another kind than SYNTH, judged (R63 to R67) -/

section Judged

variable {rep : StepReport} (kind : rep.kind ≠ .synth)

include kind

theorem lockMoved_of_acquire (c : RefConfig) {l : LockSupervisor} (h : l.lock = .acquire) :
    lockMoved c rep l =
      if rep.tooth = 0 ∧ c.cleanToLock ≤ (judged c rep l).clean then
        { judged c rep l with lock := .locked, settle := c.settleCycles }
      else judged c rep l := by
  simp only [lockMoved, h, kind, false_and, if_false]

theorem lockMoved_of_locked (c : RefConfig) {l : LockSupervisor} (h : l.lock = .locked) :
    lockMoved c rep l =
      if rep.tooth = 0 ∧ (rep.finding = .mismatch ∨ c.indexMissLimit < (judged c rep l).indexMiss
          ∨ c.noisyToUnlock ≤ (judged c rep l).noisy) then toAcquire (judged c rep l)
      else if rep.tooth = 0 then { judged c rep l with settle := (judged c rep l).settle - 1 }
      else judged c rep l := by
  simp only [lockMoved, h, kind, false_and, if_false]

theorem lockMoved_of_holdover (c : RefConfig) {l : LockSupervisor} (h : l.lock = .holdover) :
    lockMoved c rep l =
      if rep.tooth = 0 ∧ rep.finding = .mismatch then toAcquire (judged c rep l)
      else if rep.tooth = 0 ∧ rep.kind = .real ∧ rep.finding = .matched then
        { judged c rep l with lock := .locked, settle := 0 }
      else judged c rep l := by
  simp only [lockMoved, h, kind, false_and, if_false]

/-- LS judges a step in ACQUIRE, LOCKED or HOLDOVER: the judgement, and what is done before the step reaches FS. -/
theorem supervise_eq_handedOn {before s : State} (lock : before.ls.lock = s.ls.lock)
    (settle : before.ls.settle = s.ls.settle)
    (angle : s.ls.lock = .acquire ∨ s.ls.lock = .locked ∨ s.ls.lock = .holdover) :
    supervise applyPending rep s = handedOn before (judgedState rep s) := by
  have sameLock := judged_lock s.cc.active rep s.ls
  have sameSettle := judged_settle s.cc.active rep s.ls
  rcases angle with acquire | locked | holdover
  · have moved := lockMoved_of_acquire kind s.cc.active acquire
    have outside : before.inFiring ≠ true := by simp [State.inFiring, LockSupervisor.inFiring, lock, acquire]
    simp only [supervise, acquire, stepInAcquire, judgeStep_noteSynth, kind, false_and, if_false]
    split
    · next locks =>
        rw [if_pos locks] at moved
        exact enterLocked_eq_handedOn sameLock (fun inside => absurd inside outside) (by simp [acquire]) moved
    · next stays =>
        rw [if_neg stays] at moved
        exact judged_eq_handedOn lock settle moved
  · have moved := lockMoved_of_locked kind s.cc.active locked
    simp only [supervise, locked, stepInLocked, judgeStep_noteSynth, kind, false_and, if_false]
    split
    · next leaves =>
        rw [if_pos leaves] at moved
        exact enterAcquire_eq_handedOn sameLock sameSettle lock settle (by simp [locked]) moved
    · next stays =>
        rw [if_neg stays] at moved
        split
        · next zero =>
            rw [if_pos zero] at moved
            exact countSettle_eq_handedOn sameLock sameSettle (judged_lockMarks _ _ _) lock settle locked moved
        · next other =>
            rw [if_neg other] at moved
            exact judged_eq_handedOn lock settle moved
  · have moved := lockMoved_of_holdover kind s.cc.active holdover
    have uncounted : countHoldover rep (noteSynth rep s) = noteSynth rep s := if_neg kind
    simp only [supervise, holdover, stepInHoldover, uncounted, judgeStep_noteSynth, kind, false_and, if_false]
    split
    · next leaves =>
        rw [if_pos leaves] at moved
        exact enterAcquire_eq_handedOn sameLock sameSettle lock settle (by simp [holdover]) moved
    · next stays =>
        rw [if_neg stays] at moved
        split
        · next locks =>
            rw [if_pos locks] at moved
            exact enterLocked_eq_handedOn sameLock (fun _ => rfl) (by simp [holdover]) moved
        · next other =>
            rw [if_neg other] at moved
            exact judged_eq_handedOn lock settle moved

theorem lockAfter_standstill (c : RefConfig) (l : LockSupervisor) :
    (lockAfter c rep l).standstill = l.standstill := by
  show (lockMoved c rep l).standstill = l.standstill
  cases h : l.lock with
  | acquire =>
      rw [lockMoved_of_acquire kind c h]
      split <;> exact judged_standstill c rep l
  | locked =>
      rw [lockMoved_of_locked kind c h]
      split
      · exact judged_standstill c rep l
      · split <;> exact judged_standstill c rep l
  | holdover =>
      rw [lockMoved_of_holdover kind c h]
      split
      · exact judged_standstill c rep l
      · split <;> exact judged_standstill c rep l
  | stopped => simp only [lockMoved, h]
  | search => simp only [lockMoved, h]
  | freerun => simp only [lockMoved, h]

end Judged

/-! ### The step of AG (R35, R36, R39) -/

/-- R7, R59: EQ hands its cycle noise count over at tooth 0. -/
theorem handOverNoise_eq (rep : StepReport) (s : State) :
    handOverNoise rep s = { s with
      ls := { s.ls with closingNoise := if rep.tooth = 0 then s.eq.cycleNoise else s.ls.closingNoise }
      eq := { s.eq with cycleNoise := if rep.tooth = 0 then 0 else s.eq.cycleNoise } } := by
  unfold handOverNoise
  split <;> rfl

theorem beginTooth_of_valid (k : Nat) {s : State} (valid : s.ag.valid = true) :
    beginTooth k s = { s with ag := { s.ag with
      tooth := k
      cycle := if k = 0 then s.ag.cycle + 1 else s.ag.cycle
      toothStart := s.stamp
      timer := 0
      base := k * 3600 / s.cc.active.toothCount } } := by
  simp only [beginTooth, valid, Bool.and_true, decide_eq_true_eq]
  rfl

/-- R71: LS judges nothing in FREERUN. -/
theorem supervise_of_freerun (ap : State → State) (rep : StepReport) {s : State} (h : s.ls.lock = .freerun) :
    supervise ap rep s = s := by
  simp only [supervise, h]

theorem freeRunStep_eq (ap : State → State) {s : State} (freerun : s.ls.lock = .freerun) :
    freeRunStep ap s =
      let u := beginTooth ((s.ag.tooth + 1) % s.cc.active.toothCount) s
      schedulerStep ap (stepReport .free .unchecked u) (handOverNoise (stepReport .free .unchecked u) u) := by
  have unjudged (rep : StepReport) (k : Nat) :
      supervise ap rep (handOverNoise rep (beginTooth k s)) = handOverNoise rep (beginTooth k s) := by
    refine supervise_of_freerun ap rep ?_
    rw [handOverNoise_eq]
    exact freerun
  exact congrArg (schedulerStep ap _) (unjudged _ _)

/-- Settles O20: the free-run generator begins the tooth, LS judges nothing, and FS handles the step. -/
theorem freeStepAdvancesTheTooth : Obligations.FreeStepAdvancesTheTooth := by
  intro s freerun running valid period
  have due : freeStepDue s = true := (freeStepDue_iff s).2 ⟨freerun, running, period⟩
  have taken : exec .freeStep s = .next (freeRunStep applyPending s) := congrArg Host.Outcome.next (if_pos due)
  have reference := closed_reference.freeRunStep s
  have step := freeRunStep_eq applyPending freerun
  simp only [handOverNoise_eq, beginTooth_of_valid _ valid, stepReport] at step
  refine ⟨_, _, _, _, rfl, rfl, rfl, taken, step, fun commitFree => ?_, reference.stamp, reference.pi, reference.pending⟩
  exact blocks_of_schedulerStep commitFree step

/-! ### The REAL step (R39, R46, R47) -/

theorem indexCheck_eq (s : State) :
    indexCheck s =
      let k := if s.ag.indexPending = true then 0 else (s.ag.tooth + 1) % s.cc.active.toothCount
      (k, if s.ag.indexPending = true then
          if (s.ag.tooth + 1) % s.cc.active.toothCount = 0 then .matched else .mismatch
        else if k = 0 then .miss else .unchecked) := by
  unfold indexCheck nextTooth
  cases h : s.ag.indexPending
  · rfl
  · simp only [if_true]
    split <;> rfl

/-- A tooth that a real edge begins or anchors, with the deadline from the estimate (R36, R39, R40). -/
def anchored (k : Nat) (cycle : Cycle) (s : State) : AngleGenerator :=
  { s.ag with
    valid := true
    tooth := k
    cycle := cycle
    toothStart := s.stamp
    base := k * 3600 / s.cc.active.toothCount
    timer := 0
    missCount := 0
    synthSinceReal := false
    indexPending := false
    lateWindow := none
    deadline := (trackEdge s).estimate.map fun e => min (e * (16 + s.cc.active.missMargin) / 16) 16777215 }

/-- The step that a real edge makes, handed on by EQ and not yet judged (R7, R35). -/
def edgeStepped (k : Nat) (cycle : Cycle) (s : State) : State :=
  { trackEdge s with
    eq := { s.eq with
      tooth := ⟨s.eq.tooth.raw, s.eq.tooth.raw, none⟩
      window := windowOpened s.stamp s.cc.active.blanking (trackEdge s).estimate
      cycleNoise := if k = 0 then 0 else s.eq.cycleNoise }
    ag := anchored k cycle s
    ls := { s.ls with
      standstill := .running 0
      closingNoise := if k = 0 then s.eq.cycleNoise else s.ls.closingNoise } }

/-- The report of the REAL step that a real edge makes (R35). -/
def realReport (s : State) : StepReport :=
  let k := if s.ag.indexPending = true then 0 else (s.ag.tooth + 1) % s.cc.active.toothCount
  ⟨.real, k, if k = 0 then s.ag.cycle + 1 else s.ag.cycle, s.stamp, 0,
    if s.ag.indexPending = true then
      if (s.ag.tooth + 1) % s.cc.active.toothCount = 0 then .matched else .mismatch
    else if k = 0 then .miss else .unchecked⟩

/-- R39, R40: a step to tooth k that a real edge makes while the angle is valid. -/
theorem anchorReal_beginTooth {n : State} (valid : n.ag.valid = true) (freerun : n.ls.lock ≠ .freerun) (k : Nat) :
    anchorReal { beginTooth k n with ag := { (beginTooth k n).ag with indexPending := false } } =
      { n with ag := { n.ag with
        tooth := k
        cycle := if k = 0 then n.ag.cycle + 1 else n.ag.cycle
        toothStart := n.stamp
        base := k * 3600 / n.cc.active.toothCount
        timer := 0
        missCount := 0
        indexPending := false
        lateWindow := none
        deadline := n.estimate.map fun e => min (e * (16 + n.cc.active.missMargin) / 16) 16777215 } } := by
  rw [beginTooth_of_valid k valid]
  exact anchorReal_of_valid valid freerun

theorem realStep_of_edge (ap : State → State) {s : State} (stopped : s.ls.lock ≠ .stopped)
    (freerun : s.ls.lock ≠ .freerun) (valid : s.ag.valid = true) :
    realStep ap (noticed (measured s)) =
      schedulerStep ap (realReport s)
        (supervise ap (realReport s) (edgeStepped (realReport s).tooth (realReport s).cycle s)) := by
  have stoppedStill : (measured s).ls.lock ≠ .stopped := by simpa [measured] using stopped
  have freerunStill : (noticed (measured s)).ls.lock ≠ .freerun := by
    rw [noticed_of_not_stopped stoppedStill]
    simpa [measured] using freerun
  have validStill : (noticed (measured s)).ag.valid = true := by
    rw [noticed_of_not_stopped stoppedStill]
    simpa [measured] using valid
  have begun := anchorReal_beginTooth validStill freerunStill (indexCheck (noticed (measured s))).1
  simp only [realStep, handStep, begun, handOverNoise_eq]
  rw [noticed_of_not_stopped stoppedStill]
  simp only [indexCheck_eq, measured, stepReport, trackEdge_ag, trackEdge_ls, trackEdge_cc, trackEdge_stamp]
  simp only [realReport, edgeStepped, anchored, valid, trackEdge_cc, trackEdge_stamp]
  rfl

theorem realReport_kind (s : State) : (realReport s).kind ≠ .synth := by simp [realReport]

/-- What the other blocks have reached when the REAL step is handed on to FS. -/
def realReached (s : State) : State :=
  judgedState (realReport s) (edgeStepped (realReport s).tooth (realReport s).cycle s)

/-- R38, R39: outside the late window the edge makes the step, and LS judges it. -/
theorem realEdge_step {s : State} (accepted : s.cc.active.toothPolarity.accepts s.eq.tooth.raw = true)
    (clear : inBlanking s = false) (angle : s.ls.lock = .acquire ∨ s.ls.lock = .locked ∨ s.ls.lock = .holdover)
    (late : inLateWindow s = false) (valid : s.ag.valid = true) :
    filteredTransition applyPending .tooth s =
      schedulerStep applyPending (realReport s) (handedOn s (realReached s)) := by
  have angleStill : (measured s).ls.lock = .acquire ∨ (measured s).ls.lock = .locked
      ∨ (measured s).ls.lock = .holdover := by simpa [measured] using angle
  have lateStill : ¬inLateWindow (measured s) = true := by simp [inLateWindow_measured, late]
  have stopped : s.ls.lock ≠ .stopped := by rcases angle with e | e | e <;> simp [e]
  have freerun : s.ls.lock ≠ .freerun := by rcases angle with e | e | e <;> simp [e]
  have judgement := supervise_eq_handedOn (realReport_kind s) (before := s)
    (s := edgeStepped (realReport s).tooth (realReport s).cycle s) rfl rfl angle
  rw [filteredTransition_of_realEdge _ accepted clear, generatorEdge_of_angle _ angleStill, if_neg lateStill,
    realStep_of_edge _ stopped freerun valid, judgement, realReached]

@[simp] theorem realReached_cc (s : State) : (realReached s).cc = s.cc := trackEdge_cc s

/-- R57: the notice has just started the standstill timer. -/
@[simp] theorem realReached_standstill (s : State) : (realReached s).ls.standstill = .running 0 :=
  lockAfter_standstill (realReport_kind s) _ _

/-- Settles O14: AG begins the tooth, LS judges the step, and FS handles what is handed on. -/
theorem realStepAdvancesTheTooth : Obligations.RealStepAdvancesTheTooth := by
  intro s due accepted clear angle late valid
  have step := realEdge_step accepted clear angle late valid
  have reference := closed_reference.filteredTransition .tooth s
  refine ⟨_, realReached s, _, _, realReport s, rfl, rfl, rfl, ?_, ?_, exec_runExpiry_of_due due, step,
    fun commitFree => ?_, reference.stamp, reference.pi, reference.pending⟩
  · simp only [realReached, judgedState, edgeStepped, trackEdge_cc]
    rfl
  · simp only [realReached, judgedState, edgeStepped, anchored, trackEdge_cc, trackEdge_er, valid]
    rfl
  · have handed : FiringFrame (realReached s) (handedOn s (realReached s)) :=
      handedOn_frame (by simpa using commitFree) (by simp)
    have same : (handedOn s (realReached s)).cc = s.cc := handed.cc.trans (realReached_cc s)
    obtain ⟨ag, ls, pt, eq, cc⟩ := blocks_of_schedulerStep (same ▸ commitFree) step
    exact ⟨ag.trans handed.ag, ls.trans handed.ls, pt.trans handed.pt, eq.trans handed.eq, cc.trans same⟩

/-! ### The ALIGN step (R46, R62) -/

/-- R36, R46: ALIGN begins tooth 0 with an angle that is valid from now on, and leaves the cycle number. -/
theorem anchorReal_align {n : State} (freerun : n.ls.lock ≠ .freerun) :
    let t := beginTooth 0 { n with ag := { n.ag with valid := false } }
    anchorReal { t with ag := { t.ag with indexPending := false, valid := true } } =
      { n with ag := { n.ag with
        valid := true
        tooth := 0
        toothStart := n.stamp
        base := 0 * 3600 / n.cc.active.toothCount
        timer := 0
        missCount := 0
        indexPending := false
        lateWindow := none
        deadline := n.estimate.map fun e => min (e * (16 + n.cc.active.missMargin) / 16) 16777215 } } :=
  anchorReal_of_valid rfl freerun

theorem alignStep_of_edge (ap : State → State) {s : State} (search : s.ls.lock = .search) :
    alignStep ap (noticed (measured s)) =
      schedulerStep ap ⟨.real, 0, s.ag.cycle, s.stamp, 0, .align⟩
        (supervise ap ⟨.real, 0, s.ag.cycle, s.stamp, 0, .align⟩ (edgeStepped 0 s.ag.cycle s)) := by
  have stoppedStill : (measured s).ls.lock ≠ .stopped := by simp [measured, search]
  have freerunStill : (noticed (measured s)).ls.lock ≠ .freerun := by
    rw [noticed_of_not_stopped stoppedStill]
    simp [measured, search]
  have begun := anchorReal_align freerunStill
  simp only at begun
  simp only [alignStep, handStep, begun, handOverNoise_eq]
  rw [noticed_of_not_stopped stoppedStill]
  simp only [measured, stepReport, edgeStepped, anchored, trackEdge_ag, trackEdge_ls, trackEdge_cc, trackEdge_stamp]
  rfl

/-- R62, R69: from SEARCH, outside the firing set and with the timer running. -/
theorem enterAcquire_of_search (ap : State → State) {s : State} (search : s.ls.lock = .search)
    (timer : s.ls.standstill ≠ .expired) :
    enterAcquire ap s = { s with
      ls := { s.ls with
        lock := .acquire
        settle := 0
        clean := 0
        synthInCycle := false
        lockMarks := Vector.replicate 4 false }
      er := lockCaused true s.er } := by
  have outside : ¬s.inFiring = true := by simp [State.inFiring, LockSupervisor.inFiring, search]
  have moved : moveLock .acquire { s with ls := { s.ls with clean := 0, settle := 0, synthInCycle := false } } = { s with
      ls := { s.ls with
        lock := .acquire
        settle := 0
        clean := 0
        synthInCycle := false
        lockMarks := Vector.replicate 4 false }
      er := lockCaused true s.er } := by
    have kept : trimmed s.cc.active .search .acquire s.pt.history = s.pt.history :=
      trimmed_of_not_lt (Nat.lt_irrefl _) _
    rw [moveLock_eq]
    simp only [search, kept, reduceCtorEq, if_false]
    rfl
  rw [enterAcquire, departFrom, if_neg outside, moved, goOnToStopped, if_neg]
  rintro ⟨-, expired⟩
  exact timer expired

/-- Settles O15: ALIGN makes the angle valid, LS goes to ACQUIRE, and FS, with nothing listed, takes the cycle seen. -/
theorem alignMakesTheAngleValid : Obligations.AlignMakesTheAngleValid := by
  intro s due accepted clear search pending quiet
  have outside : s.inFiring = false := by simp only [State.inFiring, LockSupervisor.inFiring, search]
  obtain ⟨tickets, deferred, -, -⟩ := quiet outside
  have searchStill : (measured s).ls.lock = .search := by simpa [measured] using search
  have pendingStill : (measured s).ag.indexPending = true := by simpa [measured] using pending
  have acquires := enterAcquire_of_search applyPending (s := edgeStepped 0 s.ag.cycle s) search (by simp [edgeStepped])
  rw [exec_runExpiry_of_due due, filteredTransition_of_realEdge _ accepted clear,
    generatorEdge_of_align _ searchStill pendingStill, alignStep_of_edge _ search,
    supervise_of_align (s := edgeStepped 0 s.ag.cycle s) search rfl, acquires, schedulerStep_of_quiet]
  · simp only [edgeStepped, anchored, trackEdge_fs, trackEdge_er, Nat.zero_mul, Nat.zero_div, if_true]
  · simpa [edgeStepped] using tickets
  · simpa [edgeStepped] using deferred
  · rfl

end Sys2Proof.Proofs
end

section
/-! PROOFS. Where each tooth begins, and the interpolated angle (R34, R48, R49). -/

namespace Sys2Proof.Proofs

open Sys2Proof Sys2Proof.Machine Sys2Proof.Safety

/-! ### Tooth angles (R34) -/

theorem toothAngle_last {teeth : Nat} (h : 0 < teeth) : toothAngle teeth teeth = 3600 := Nat.mul_div_cancel_left _ h

theorem toothAngle_mono (teeth : Nat) : Monotone (toothAngle teeth) := fun _ _ h =>
  Nat.div_le_div_right (Nat.mul_le_mul_right 3600 h)

/-- No span is empty while there are at most 3600 teeth. -/
theorem toothAngle_lt_succ {teeth : Nat} (pos : 0 < teeth) (few : teeth ≤ 3600) (k : Nat) :
    toothAngle teeth k < toothAngle teeth (k + 1) :=
  calc toothAngle teeth k
    _ < k * 3600 / teeth + 1 := Nat.lt_succ_self _
    _ = (k * 3600 + teeth) / teeth := (Nat.add_div_right _ pos).symm
    _ ≤ (k * 3600 + 3600) / teeth := Nat.div_le_div_right (Nat.add_le_add_left few _)
    _ = toothAngle teeth (k + 1) := by rw [toothAngle, Nat.succ_mul]

/-- The spans of the first n teeth add up to the start of tooth n. -/
theorem sum_spans (teeth n : Nat) :
    ((List.range n).map fun k => toothAngle teeth (k + 1) - toothAngle teeth k).sum = toothAngle teeth n := by
  induction n with
  | zero => simp [toothAngle]
  | succ n ih =>
      have rises : toothAngle teeth n ≤ toothAngle teeth (n + 1) := toothAngle_mono teeth (Nat.le_succ n)
      rw [List.range_succ, List.map_append, List.sum_append, ih]
      simp only [List.map_cons, List.map_nil, List.sum_singleton]
      omega

/-! ### The interpolated angle (R48, R49) -/

/-- R48: the angle that stands t pu into a tooth of period p. -/
def interpolated (base ends t p : Nat) : Nat := min (base + (ends - base) * t / p) (ends - 1)

theorem interpolated_within {base ends : Nat} (h : base < ends) (t p : Nat) :
    base ≤ interpolated base ends t p ∧ interpolated base ends t p < ends := by
  unfold interpolated
  generalize (ends - base) * t / p = passed
  omega

theorem angle_of_valid {s : State} (valid : s.ag.valid = true) :
    s.angle = s.period.map (interpolated s.ag.base s.toothEnd s.ag.timer) := by
  rw [State.angle, if_pos valid]
  cases s.period <;> rfl

theorem angle_of_not_valid {s : State} (invalid : s.ag.valid = false) : s.angle = none :=
  if_neg (by simp [invalid])

theorem angle_of_no_period {s : State} (h : s.period = none) : s.angle = none := by
  cases valid : s.ag.valid with
  | false => exact angle_of_not_valid valid
  | true => rw [angle_of_valid valid, h, Option.map_none]

theorem period_of_estimate {s : State} (h : s.ls.lock = .acquire ∨ s.ls.lock = .locked ∨ s.ls.lock = .holdover) :
    s.period = s.estimate := by
  rcases h with e | e | e <;> simp only [State.period, e]

/-- R49: a present angle is that of a valid angle with a period, so it lies within its tooth. -/
theorem angle_within {s : State} {a : Nat} (h : s.angle = some a) (tooth : s.ag.base < s.toothEnd) :
    s.ag.base ≤ a ∧ a < s.toothEnd := by
  cases valid : s.ag.valid with
  | false => simp [angle_of_not_valid valid] at h
  | true =>
      rw [angle_of_valid valid] at h
      obtain ⟨p, -, rfl⟩ := Option.map_eq_some_iff.1 h
      exact interpolated_within tooth _ p

/-- Settles O30: the tooth angles by their quotients, and the interpolated angle by lock state and period. -/
theorem teethAndTheInterpolatedAngle : Obligations.TeethAndTheInterpolatedAngle := by
  refine ⟨fun teeth least most => ?_, fun s => ⟨s.toothEnd, rfl, angle_of_not_valid, fun low => ?_,
    fun angle valid => ?_, fun freerun valid => ?_, fun _ => angle_within⟩⟩
  · have pos : 0 < teeth := by omega
    refine ⟨fun _ => rfl, toothAngle_last pos, ?_, fun k _ => toothAngle_lt_succ pos (by omega) k⟩
    rw [sum_spans, toothAngle_last pos]
  · refine angle_of_no_period ?_
    rcases low with e | e <;> simp only [State.period, e]
  · rw [angle_of_valid valid, period_of_estimate angle]
    rfl
  · rw [angle_of_valid valid]
    simp only [State.period, freerun]
    rfl

end Sys2Proof.Proofs
end

section
/-! PROOFS. Forced closes (R123): what closing the open windows of some entries in turn leaves, as the loss teardown and the
entry into HOLDOVER do (R125, R127). -/

namespace Sys2Proof.Proofs

open Sys2Proof Sys2Proof.Machine Sys2Proof.Safety

/-- Across FS's frame only the lists, the entries, the tracks and the delivered records can differ. -/
theorem eq_of_firingFrame {s t : State} (h : FiringFrame s t) :
    t = { s with fs := t.fs, ctc := { s.ctc with entries := t.ctc.entries }, td := t.td, er := t.er } := by
  obtain ⟨_, _, _, _, _, _, ⟨_, _, _⟩, _, _, _, _, _, _, _⟩ := t
  simp only [← h.resetLow, ← h.stamp, ← h.eq, ← h.pt, ← h.ag, ← h.ls, ← h.cc, ← h.pi, ← h.pending, ← h.freeCount,
    ← h.owned, ← h.quota]

/-! ### Records posted one after another (R149) -/

/-- Every port's part of ER after these records. -/
def delivered (events : List Event) (er : Vector EventPort 4) : Vector EventPort 4 :=
  events.foldl (fun er ev => Vector.ofFn fun p => er[p].deliver p ev) er

theorem delivered_append (a b : List Event) (er : Vector EventPort 4) :
    delivered (a ++ b) er = delivered b (delivered a er) := List.foldl_append

theorem postAll_eq (events : List Event) (s : State) : postAll events s = { s with er := delivered events s.er } := by
  induction events generalizing s with
  | nil => rfl
  | cons ev rest ih => exact ih (post ev s)

theorem postEntry_er (kind : EventKind) (o : Occasion) (i : EntryNo) (s : State) :
    (postEntry kind o i s).er =
      delivered (if s.ctc.entries[i].image.flags.quiet = true then [] else [entryEvent kind o i s]) s.er := by
  unfold postEntry
  split <;> rfl

/-! ### The windows of some entries closed -/

/-- The events of the forced close of entry i's window (R122, R123). -/
def closeEvents (spends : Bool) (s : State) (i : EntryNo) : List Event :=
  let event (kind : EventKind) (forced : Bool) : Event :=
    ⟨kind, false, forced, false, s.ctc.entries[i].image.tag, i.val, s.ctc.entries[i].owner, s.cycleIfValid, s.angle, s.stamp⟩
  if s.ctc.entries[i].image.flags.quiet = true then []
  else event .close true :: if spends && s.ctc.entries[i].spent then [event .spent false] else []

/-- An entry whose open window is force-closed, which spends a spent one (R120, R123). -/
def closedEntry (spends : Bool) (e : Entry) : Entry :=
  { e with windowOpen := false, state := if (spends && e.spent) = true then .held else e.state }

/-- A point of one of these entries goes with the close that spends its entry (R120). -/
def goesWith (spends : Bool) (l : List EntryNo) (s : State) (i : EntryNo) : Bool :=
  decide (i ∈ l) && (spends && s.ctc.entries[i].spent)

/-- The open windows of these entries force-closed in turn. -/
def closedWindows (spends : Bool) (l : List EntryNo) (s : State) : State :=
  { s with
    fs := { s.fs with
      tickets := s.fs.tickets.filter fun u => !goesWith spends l s u.entry
      deferred := s.fs.deferred.filter fun d => !goesWith spends l s d.entry }
    ctc := { s.ctc with
      entries := Vector.ofFn fun i => if i ∈ l then closedEntry spends s.ctc.entries[i] else s.ctc.entries[i] }
    td := Vector.ofFn fun k =>
      { s.td[k] with windowCount := s.td[k].windowCount - l.countP fun i => s.ctc.entries[i].image.track == some k }
    er := delivered (l.flatMap (closeEvents spends s)) s.er }

theorem ofFn_at {α : Type} {n : Nat} (f : Fin n → α) (i : Fin n) : (Vector.ofFn f)[i] = f i := by simp

theorem closedWindows_nil (spends : Bool) (s : State) : closedWindows spends [] s = s := by
  simp [closedWindows, goesWith, delivered]

theorem closedWindows_entry (spends : Bool) (l : List EntryNo) (s : State) (i : EntryNo) :
    (closedWindows spends l s).ctc.entries[i] =
      if i ∈ l then closedEntry spends s.ctc.entries[i] else s.ctc.entries[i] := by
  unfold closedWindows
  exact ofFn_at _ i

theorem closedWindows_track (spends : Bool) (l : List EntryNo) (s : State) (k : TrackNo) :
    (closedWindows spends l s).td[k] =
      { s.td[k] with windowCount := s.td[k].windowCount - l.countP fun i => s.ctc.entries[i].image.track == some k } := by
  unfold closedWindows
  exact ofFn_at _ k

theorem postAll_frame (events : List Event) (s : State) : FiringFrame s (postAll events s) :=
  foldl_frame _ (fun t ev => post_frame ev t) events s

theorem closedWindows_frame (spends : Bool) (l : List EntryNo) (s : State) : FiringFrame s (closedWindows spends l s) := by
  constructor
  case entries =>
    intro i
    rw [closedWindows_entry]
    split <;> exact ⟨rfl, rfl⟩
  case tracks =>
    intro k
    rw [closedWindows_track]
    exact ⟨rfl, rfl, rfl, rfl⟩
  case ports =>
    have posts := (postAll_frame (l.flatMap (closeEvents spends s)) s).ports
    rw [postAll_eq] at posts
    unfold closedWindows
    exact posts
  all_goals
    unfold closedWindows
    rfl

theorem closeEvents_congr {spends : Bool} {s t : State} {i : EntryNo} (entry : t.ctc.entries[i] = s.ctc.entries[i])
    (frame : FiringFrame s t) : closeEvents spends t i = closeEvents spends s i := by
  simp only [closeEvents, entry, State.cycleIfValid, frame.ag, frame.angle, frame.stamp]

/-- A close reads nothing that a close of another entry's window changes. -/
theorem closeEvents_closedWindows {spends : Bool} {l : List EntryNo} {i : EntryNo} (h : i ∉ l) (s : State) :
    closeEvents spends (closedWindows spends l s) i = closeEvents spends s i := by
  refine closeEvents_congr ?_ (closedWindows_frame spends l s)
  rw [closedWindows_entry, if_neg h]

theorem goesWith_closedWindows {spends : Bool} {l m : List EntryNo} (apart : ∀ i ∈ m, i ∉ l) (s : State) (i : EntryNo) :
    (!goesWith spends m (closedWindows spends l s) i && !goesWith spends l s i) = !goesWith spends (l ++ m) s i := by
  simp only [goesWith, List.mem_append]
  by_cases h : i ∈ m
  · rw [closedWindows_entry, if_neg (apart i h)]
    simp [h, apart i h]
  · simp [h]

theorem closedWindows_append (spends : Bool) {l m : List EntryNo} (apart : ∀ i ∈ m, i ∉ l) (s : State) :
    closedWindows spends m (closedWindows spends l s) = closedWindows spends (l ++ m) s := by
  have events : m.flatMap (closeEvents spends (closedWindows spends l s)) = m.flatMap (closeEvents spends s) :=
    List.flatMap_congr fun i h => closeEvents_closedWindows (apart i h) s
  have counts (k : TrackNo) : m.countP (fun i => (closedWindows spends l s).ctc.entries[i].image.track == some k)
      = m.countP fun i => s.ctc.entries[i].image.track == some k := by
    refine List.countP_congr fun i h => ?_
    rw [closedWindows_entry, if_neg (apart i h)]
  have entries (i : EntryNo) :
      (if i ∈ m then closedEntry spends (closedWindows spends l s).ctc.entries[i]
        else (closedWindows spends l s).ctc.entries[i])
        = if i ∈ l ++ m then closedEntry spends s.ctc.entries[i] else s.ctc.entries[i] := by
    rw [closedWindows_entry]
    by_cases h : i ∈ m
    · simp only [h, if_neg (apart i h), List.mem_append, or_true, if_true]
    · simp only [h, List.mem_append, or_false, if_false]
  have goes := goesWith_closedWindows apart s (spends := spends)
  rw [closedWindows, events]
  simp only [counts, entries, closedWindows_track]
  unfold closedWindows at goes ⊢
  simp only [List.filter_filter, goes, List.flatMap_append, delivered_append, List.countP_append, Nat.sub_sub]

/-! ### A forced close is the close of one window (R123) -/

theorem vector_ext_at {α : Type} {n : Nat} {v w : Vector α n} (h : ∀ i : Fin n, v[i] = w[i]) : v = w :=
  Vector.ext fun i hi => h ⟨i, hi⟩

theorem closeWindow_entry (o : Occasion) (i : EntryNo) (s : State) (j : EntryNo) :
    (closeWindow o i s).ctc.entries[j] =
      if i = j then { s.ctc.entries[j] with windowOpen := false } else s.ctc.entries[j] := by
  simp only [closeWindow, postEntry_ctc, onTrack_ctc, State.modEntry_ctc_entries, vmod_at]

theorem closeWindow_track (o : Occasion) (i : EntryNo) (s : State) (k : TrackNo) :
    (closeWindow o i s).td[k] =
      { s.td[k] with
        windowCount := s.td[k].windowCount - [i].countP fun i => s.ctc.entries[i].image.track == some k } := by
  simp only [closeWindow, postEntry_td, onTrack_at, State.modEntry_td, List.countP_singleton, beq_iff_eq]
  split <;> rfl

theorem entryEvent_congr {s t : State} {i : EntryNo} (image : t.ctc.entries[i].image = s.ctc.entries[i].image)
    (owner : t.ctc.entries[i].owner = s.ctc.entries[i].owner) (stamp : t.stamp = s.stamp) (kind : EventKind) (o : Occasion) :
    entryEvent kind o i t = entryEvent kind o i s := by
  simp only [entryEvent, image, owner, stamp]

theorem closeWindow_er (o : Occasion) (i : EntryNo) (s : State) :
    (closeWindow o i s).er =
      delivered (if s.ctc.entries[i].image.flags.quiet = true then [] else [entryEvent .close o i s]) s.er := by
  have frame : FiringFrame s (onTrack s.ctc.entries[i].image.track Track.windowDown
      (s.modEntry i fun e => { e with windowOpen := false })) :=
    (modEntry_frame s i _ ⟨rfl, rfl⟩).trans (onTrack_frame _ _ _ fun _ => ⟨rfl, rfl, rfl, rfl⟩)
  have image : (onTrack s.ctc.entries[i].image.track Track.windowDown
      (s.modEntry i fun e => { e with windowOpen := false })).ctc.entries[i].image = s.ctc.entries[i].image := by
    simp only [onTrack_ctc, State.modEntry_ctc_entries, vmod_self]
  rw [closeWindow, postEntry_er, entryEvent_congr image (frame.entries i).1 frame.stamp, image, onTrack_er,
    State.modEntry_er]

theorem spend_entry (o : Occasion) (i : EntryNo) (s : State) (j : EntryNo) :
    (spend o i s).ctc.entries[j] =
      if i = j then { s.ctc.entries[j] with state := .held, spent := true } else s.ctc.entries[j] := by
  simp only [spend, postEntry_ctc, State.modEntry_ctc_entries, removePoints_ctc, vmod_at]

theorem spend_track (o : Occasion) (i : EntryNo) (s : State) (k : TrackNo) : (spend o i s).td[k] = s.td[k] := by
  simp only [spend, postEntry_td, State.modEntry_td, removePoints_td]

theorem spend_fs (o : Occasion) (i : EntryNo) (s : State) : (spend o i s).fs = (removePoints i s).fs := by
  simp only [spend, postEntry_fs, State.modEntry_fs]

theorem spend_er (o : Occasion) (i : EntryNo) (s : State) :
    (spend o i s).er = delivered (if s.ctc.entries[i].image.flags.quiet = true then []
      else [entryEvent .spent { o with forced := false } i s]) s.er := by
  have image : ((removePoints i s).modEntry i fun e => { e with state := .held, spent := true }).ctc.entries[i].image
      = s.ctc.entries[i].image := by
    simp only [State.modEntry_ctc_entries, removePoints_ctc, vmod_self]
  have owner : ((removePoints i s).modEntry i fun e => { e with state := .held, spent := true }).ctc.entries[i].owner
      = s.ctc.entries[i].owner := by
    simp only [State.modEntry_ctc_entries, removePoints_ctc, vmod_self]
  rw [spend, postEntry_er, entryEvent_congr image owner rfl, image, State.modEntry_er, removePoints_er]

/-- R123: the occasion of a forced close. -/
def forcedOccasion (s : State) : Occasion := ⟨false, true, s.cycleIfValid, s.angle⟩

theorem forceClose_of_open {spends : Bool} {i : EntryNo} {s : State} (isOpen : s.ctc.entries[i].windowOpen = true) :
    forceClose spends i s =
      if (s.ctc.entries[i].spent && spends) = true then
        spend (forcedOccasion s) i (closeWindow (forcedOccasion s) i s)
      else closeWindow (forcedOccasion s) i s := if_pos isOpen

theorem forceClose_of_closed {spends : Bool} {i : EntryNo} {s : State} (closed : ¬s.ctc.entries[i].windowOpen = true) :
    forceClose spends i s = s := if_neg closed

/-- Two states that FS's frame joins, and that agree on the rest of what FS changes, are the same. -/
theorem eq_of_firingFrames {s t u : State} (ht : FiringFrame s t) (hu : FiringFrame s u)
    (fs : t.fs = u.fs) (entries : ∀ i : EntryNo, t.ctc.entries[i] = u.ctc.entries[i])
    (tracks : ∀ k : TrackNo, t.td[k] = u.td[k]) (er : t.er = u.er) : t = u := by
  rw [eq_of_firingFrame ht, eq_of_firingFrame hu, fs, er, vector_ext_at entries, vector_ext_at tracks]

theorem goesWith_singleton (spends : Bool) (i : EntryNo) (s : State) (j : EntryNo) :
    goesWith spends [i] s j = (decide (j = i) && (spends && s.ctc.entries[i].spent)) := by
  by_cases h : j = i
  · subst h
    simp [goesWith]
  · simp [goesWith, h]

/-- R123: a forced close that spends no entry. -/
theorem closeWindow_eq_closedWindows {spends : Bool} {i : EntryNo} {s : State}
    (kept : (spends && s.ctc.entries[i].spent) = false) :
    closeWindow (forcedOccasion s) i s = closedWindows spends [i] s := by
  refine eq_of_firingFrames (closeWindow_frame _ i s) (closedWindows_frame spends [i] s) ?_ (fun j => ?_) (fun k => ?_) ?_
  · simp [-Fin.getElem_fin, closedWindows, goesWith_singleton, kept]
  · rw [closeWindow_entry, closedWindows_entry]
    by_cases same : i = j
    · subst same
      simp [-Fin.getElem_fin, closedEntry, kept]
    · simp [same, Ne.symm same]
  · rw [closeWindow_track, closedWindows_track]
  · rw [closeWindow_er]
    simp only [closedWindows, List.flatMap_singleton, closeEvents, kept, Bool.false_eq_true, if_false]
    rfl

/-- R120, R123: a forced close that spends its entry, which posts SPENT behind CLOSE. -/
theorem spend_closeWindow_eq_closedWindows {spends : Bool} {i : EntryNo} {s : State}
    (spent : (spends && s.ctc.entries[i].spent) = true) :
    spend (forcedOccasion s) i (closeWindow (forcedOccasion s) i s) = closedWindows spends [i] s := by
  have closing := closeWindow_frame (forcedOccasion s) i s
  obtain ⟨on, used⟩ := Bool.and_eq_true_iff.1 spent
  have image : (closeWindow (forcedOccasion s) i s).ctc.entries[i].image = s.ctc.entries[i].image := by
    rw [closeWindow_entry, if_pos rfl]
  refine eq_of_firingFrames (closing.trans (spend_frame _ i _)) (closedWindows_frame spends [i] s) ?_ (fun j => ?_)
    (fun k => ?_) ?_
  · rw [spend_fs]
    simp [-Fin.getElem_fin, closedWindows, goesWith_singleton, spent, removePoints]
  · rw [spend_entry, closeWindow_entry, closedWindows_entry]
    by_cases same : i = j
    · subst same
      simp [-Fin.getElem_fin, closedEntry, on, used]
    · simp [same, Ne.symm same]
  · rw [spend_track, closeWindow_track, closedWindows_track]
  · rw [spend_er, entryEvent_congr image (closing.entries i).1 closing.stamp, image, closeWindow_er, ← delivered_append]
    simp only [closedWindows, List.flatMap_singleton, closeEvents, spent, if_true]
    split <;> rfl

/-- R120, R123: the forced close of an open window. -/
theorem forceClose_eq_closedWindows {spends : Bool} {i : EntryNo} {s : State}
    (isOpen : s.ctc.entries[i].windowOpen = true) : forceClose spends i s = closedWindows spends [i] s := by
  rw [forceClose_of_open isOpen, Bool.and_comm]
  split
  · next spent => exact spend_closeWindow_eq_closedWindows spent
  · next kept => exact closeWindow_eq_closedWindows (Bool.eq_false_iff.2 kept)

/-! ### Forced closes in turn (R125, R127) -/

theorem forceClose_entry_ne {spends : Bool} {i j : EntryNo} (other : j ≠ i) (s : State) :
    (forceClose spends i s).ctc.entries[j] = s.ctc.entries[j] := by
  by_cases isOpen : s.ctc.entries[i].windowOpen = true
  · rw [forceClose_eq_closedWindows isOpen, closedWindows_entry, if_neg (by simpa using other)]
  · rw [forceClose_of_closed isOpen]

/-- The open windows of the entries that `picks` takes, force-closed in the order of a list: each close leaves the entries
still to come as they were. -/
theorem foldl_forceClose (spends : Bool) (picks : Entry → Bool) {l : List EntryNo} (once : l.Nodup) (s : State) :
    l.foldl (fun t i => if picks t.ctc.entries[i] = true then forceClose spends i t else t) s =
      closedWindows spends (l.filter fun i => picks s.ctc.entries[i] && s.ctc.entries[i].windowOpen) s := by
  induction l generalizing s with
  | nil => exact (closedWindows_nil spends s).symm
  | cons i rest ih =>
      obtain ⟨fresh, onceRest⟩ := List.nodup_cons.1 once
      rw [List.foldl_cons, ih onceRest]
      by_cases picked : picks s.ctc.entries[i] = true
      · by_cases isOpen : s.ctc.entries[i].windowOpen = true
        · have later : (rest.filter fun j => picks (forceClose spends i s).ctc.entries[j]
              && (forceClose spends i s).ctc.entries[j].windowOpen)
              = rest.filter fun j => picks s.ctc.entries[j] && s.ctc.entries[j].windowOpen := by
            refine List.filter_congr fun j hj => ?_
            rw [forceClose_entry_ne (ne_of_mem_of_not_mem hj fresh)]
          rw [if_pos picked, later, forceClose_eq_closedWindows isOpen, closedWindows_append,
            List.filter_cons_of_pos (by rw [picked, Bool.true_and]; exact isOpen)]
          · rfl
          · intro j hj
            rw [List.mem_singleton]
            exact ne_of_mem_of_not_mem (List.mem_of_mem_filter hj) fresh
        · rw [if_pos picked, forceClose_of_closed isOpen, List.filter_cons_of_neg (by rw [picked, Bool.true_and]; exact isOpen)]
      · rw [if_neg picked, List.filter_cons_of_neg (by rw [Bool.eq_false_iff.2 picked]; exact Bool.false_ne_true)]

/-! ### The open windows of the entries named (R123) -/

/-- The entries named whose windows are open, in index order. -/
def openAmong (named : EntryNo → Bool) (s : State) : List EntryNo :=
  (List.finRange 64).filter fun i => named i && s.ctc.entries[i].windowOpen

theorem mem_openAmong (named : EntryNo → Bool) (s : State) (i : EntryNo) :
    i ∈ openAmong named s ↔ (named i && s.ctc.entries[i].windowOpen) = true := by
  simp only [openAmong, List.mem_filter, List.mem_finRange, true_and]

theorem flatMap_filter_not {α β : Type} (p q : α → Bool) (f : α → List β) (l : List α) :
    (l.filter fun a => p a && !q a).flatMap f = (l.filter p).flatMap fun a => if q a = true then [] else f a := by
  induction l with
  | nil => rfl
  | cons a rest ih =>
      cases passes : p a with
      | false => simp [passes, ih]
      | true => cases bars : q a <;> simp [passes, bars, ih]

/-- R123: the events of the closes, where a QUIET entry has none. -/
theorem forcedCloses_eq (spends : Bool) (named : EntryNo → Bool) (s : State) :
    forcedCloses spends named s = (openAmong named s).flatMap (closeEvents spends s) :=
  flatMap_filter_not _ _ _ _

theorem countP_openAmong (named : EntryNo → Bool) (s : State) (k : TrackNo) :
    ((openAmong named s).countP fun i => s.ctc.entries[i].image.track == some k) = windowsOn named s k := by
  rw [openAmong, List.countP_filter, windowsOn]
  exact List.countP_congr fun i _ => by rw [Bool.and_comm]

/-- The closes in the words of the statements. -/
theorem closedWindows_openAmong (spends : Bool) (named : EntryNo → Bool) (s : State) :
    closedWindows spends (openAmong named s) s =
      { postAll (forcedCloses spends named s) s with
        fs := (closedWindows spends (openAmong named s) s).fs
        ctc := { s.ctc with
          entries := Vector.ofFn fun i =>
            if (named i && s.ctc.entries[i].windowOpen) = true then closedEntry spends s.ctc.entries[i]
            else s.ctc.entries[i] }
        td := Vector.ofFn fun k => { s.td[k] with windowCount := s.td[k].windowCount - windowsOn named s k } } := by
  rw [postAll_eq, forcedCloses_eq]
  simp only [closedWindows, mem_openAmong, countP_openAmong]

theorem forceCloseAll_eq (s : State) : forceCloseAll s = closedWindows true (openAmong (fun _ => true) s) s :=
  foldl_forceClose true (fun _ => true) (List.nodup_finRange 64) s

theorem closed_of_forceCloseAll (s : State) (i : EntryNo) : (forceCloseAll s).ctc.entries[i].windowOpen = false := by
  rw [forceCloseAll_eq, closedWindows_entry]
  split
  · rfl
  · next closed =>
      rw [mem_openAmong, Bool.true_and] at closed
      exact Bool.eq_false_iff.2 closed

end Sys2Proof.Proofs
end

section
/-! PROOFS. The entry into HOLDOVER at FS (R127). -/

namespace Sys2Proof.Proofs

open Sys2Proof Sys2Proof.Machine Sys2Proof.Safety

/-- The points of these entries gone from both lists. -/
def withoutPoints (drops : EntryNo → Bool) (s : State) : State :=
  { s with fs := { s.fs with
      tickets := s.fs.tickets.filter fun u => !drops u.entry
      deferred := s.fs.deferred.filter fun d => !drops d.entry } }

theorem removePoints_eq (i : EntryNo) (s : State) : removePoints i s = withoutPoints (fun j => decide (j = i)) s := by
  simp [removePoints, withoutPoints]

theorem withoutPoints_withoutPoints (a b : EntryNo → Bool) (s : State) :
    withoutPoints b (withoutPoints a s) = withoutPoints (fun i => b i || a i) s := by
  simp only [withoutPoints, List.filter_filter, Bool.not_or]

theorem withoutPoints_none (s : State) : withoutPoints (fun _ => false) s = s := by
  simp [withoutPoints]

/-- R127: the points of the entries that `picks` takes, removed in the order of a list. -/
theorem foldl_removePoints (picks : Entry → Bool) (l : List EntryNo) (s : State) :
    l.foldl (fun t i => if picks t.ctc.entries[i] = true then removePoints i t else t) s =
      withoutPoints (fun i => decide (i ∈ l) && picks s.ctc.entries[i]) s := by
  induction l generalizing s with
  | nil => simpa using (withoutPoints_none s).symm
  | cons i rest ih =>
      have drops (j : EntryNo) : (decide (j ∈ i :: rest) && picks s.ctc.entries[j])
          = (decide (j ∈ rest) && picks s.ctc.entries[j] || decide (j = i) && picks s.ctc.entries[i]) := by
        by_cases same : j = i
        · subst same
          simp [-Fin.getElem_fin]
        · simp [same]
      rw [List.foldl_cons, ih]
      simp only [drops]
      split
      · next picked =>
          calc withoutPoints (fun j => decide (j ∈ rest) && picks (removePoints i s).ctc.entries[j]) (removePoints i s)
            _ = withoutPoints (fun j => decide (j ∈ rest) && picks s.ctc.entries[j])
                  (withoutPoints (fun j => decide (j = i)) s) := by rw [← removePoints_eq]; rfl
            _ = _ := by simp only [withoutPoints_withoutPoints, picked, Bool.and_true]
      · next passed => simp only [Bool.eq_false_iff.2 passed, Bool.and_false, Bool.or_false]

/-- A LIVE entry with PAUSE. -/
def paused (s : State) (i : EntryNo) : Bool := s.ctc.entries[i].pausing

theorem paused_iff (s : State) (i : EntryNo) :
    paused s i = true ↔ s.ctc.entries[i].state = .live ∧ s.ctc.entries[i].image.flags.pause = true := by
  simp only [paused, Entry.pausing, Bool.and_eq_true, beq_iff_eq]

/-- R127: the points first, and then the windows. -/
theorem holdoverDiscard_eq (s : State) :
    holdoverDiscard s = closedWindows true (openAmong (paused s) s) (withoutPoints (paused s) s) := by
  have points := foldl_removePoints Entry.pausing allEntries s
  have drops : (fun i => decide (i ∈ allEntries) && s.ctc.entries[i].pausing) = paused s := by
    funext i
    simp [-Fin.getElem_fin, allEntries, paused]
  rw [drops] at points
  rw [holdoverDiscard, points]
  exact foldl_forceClose true Entry.pausing (List.nodup_finRange 64) (withoutPoints (paused s) s)

/-- Where the points of these entries are gone already, the closes leave the lists, and nothing else in them differs. -/
theorem closedWindows_withoutPoints {spends : Bool} {l : List EntryNo} {drops : EntryNo → Bool}
    (dropped : ∀ i ∈ l, drops i = true) (s : State) :
    closedWindows spends l (withoutPoints drops s) = { closedWindows spends l s with fs := (withoutPoints drops s).fs } := by
  have goes (i : EntryNo) : (!goesWith spends l (withoutPoints drops s) i && !drops i) = !drops i := by
    cases kept : drops i with
    | true => simp
    | false =>
        have apart : i ∉ l := fun h => Bool.false_ne_true (kept.symm.trans (dropped i h))
        simp [goesWith, apart]
  have events : l.flatMap (closeEvents spends (withoutPoints drops s)) = l.flatMap (closeEvents spends s) :=
    List.flatMap_congr fun _ _ => closeEvents_congr rfl (firingFrame_of_fs s _)
  rw [closedWindows, events]
  unfold withoutPoints at goes ⊢
  simp only [closedWindows, List.filter_filter, goes]

/-- R127: FS's part of the entry into HOLDOVER, in the words of the statement. -/
theorem holdoverDiscard_drops_and_closes (s : State) :
    holdoverDiscard s = { postAll (forcedCloses true (paused s) s) s with
      fs := { s.fs with
        tickets := s.fs.tickets.filter fun u => !paused s u.entry
        deferred := s.fs.deferred.filter fun d => !paused s d.entry }
      ctc := { s.ctc with
        entries := Vector.ofFn fun i =>
          if (paused s i && s.ctc.entries[i].windowOpen) = true then
            { s.ctc.entries[i] with
              windowOpen := false
              state := if s.ctc.entries[i].spent = true then .held else .live }
          else s.ctc.entries[i] }
      td := Vector.ofFn fun k => { s.td[k] with windowCount := s.td[k].windowCount - windowsOn (paused s) s k } } := by
  have dropped (i : EntryNo) (h : i ∈ openAmong (paused s) s) : paused s i = true :=
    (Bool.and_eq_true_iff.1 ((mem_openAmong _ _ i).1 h)).1
  have entries (i : EntryNo) :
      (if (paused s i && s.ctc.entries[i].windowOpen) = true then closedEntry true s.ctc.entries[i] else s.ctc.entries[i])
        = if (paused s i && s.ctc.entries[i].windowOpen) = true then
            { s.ctc.entries[i] with
              windowOpen := false
              state := if s.ctc.entries[i].spent = true then .held else .live }
          else s.ctc.entries[i] := by
    split
    · next closes =>
        obtain ⟨live, -⟩ := (paused_iff s i).1 (Bool.and_eq_true_iff.1 closes).1
        simp only [closedEntry, Bool.true_and, live]
    · rfl
  rw [holdoverDiscard_eq, closedWindows_withoutPoints dropped, closedWindows_openAmong]
  simp only [entries]
  rfl

end Sys2Proof.Proofs
end

section
/-! PROOFS. The entry into SEARCH and the standstill timer's expiry (R37, R56, R58, R68). -/

namespace Sys2Proof.Proofs

open Sys2Proof Sys2Proof.Machine Sys2Proof.Safety

/-! ### The teardown where no commit waits (R125) -/

theorem teardown_of_commitFree {s : State} (commitFree : s.cc.pendingRecord = none) :
    teardown applyPending s = activateArming (applyOnLoss (forceCloseAll (discardLists s))) := by
  rw [teardown, applyPending_none]
  rw [(teardownParts_frame s).cc]
  exact commitFree

theorem teardown_frame {s : State} (commitFree : s.cc.pendingRecord = none) :
    FiringFrame s (teardown applyPending s) := by
  rw [teardown_of_commitFree commitFree]
  exact teardownParts_frame s

/-- R125: after the teardown both lists are empty and every window is closed. -/
theorem teardown_leaves_nothing {s : State} (commitFree : s.cc.pendingRecord = none) :
    (teardown applyPending s).fs.tickets = [] ∧ (teardown applyPending s).fs.deferred = []
      ∧ ∀ i : EntryNo, (teardown applyPending s).ctc.entries[i].windowOpen = false := by
  obtain ⟨tickets, deferred⟩ := teardownParts_lists s
  have closed (i : EntryNo) :
      (activateArming (applyOnLoss (forceCloseAll (discardLists s)))).ctc.entries[i].windowOpen = false := by
    simp only [activateArming_ctc_entries, vall_at, applyOnLoss_ctc]
    split <;> simp only [closed_of_forceCloseAll]
  rw [teardown_of_commitFree commitFree]
  exact ⟨tickets, deferred, closed⟩

theorem departFrom_of_outside (ap : State → State) {before : State} (outside : before.inFiring = false) (s : State) :
    departFrom ap before s = s := if_neg (by simp [outside])

theorem departFrom_of_inside (ap : State → State) {before : State} (inside : before.inFiring = true) (s : State) :
    departFrom ap before s = teardown ap s := if_pos inside

theorem departFrom_frame (before : State) {s : State} (commitFree : s.cc.pendingRecord = none) :
    FiringFrame s (departFrom applyPending before s) := by
  unfold departFrom
  split
  · exact teardown_frame commitFree
  · exact .refl s

/-! ### The entry into SEARCH (R58, R68) -/

/-- The hub in SEARCH, entered from another state, before the teardown and the look at the timer. -/
def searched (s : State) : State :=
  { s with
    eq := { s.eq with cycleNoise := 0, window := none }
    pt := { s.pt with history := [] }
    ag := invalidAngle s.ag
    ls := { toSearch s.ls with lockMarks := Vector.replicate 4 false }
    er := lockCaused true s.er }

theorem startStandstill_fall_search {s : State} (other : s.ls.lock ≠ .search) :
    startStandstill (fall .search s) = searched s := by
  have told : (LockState.search != s.ls.lock) = true := by simpa using other.symm
  rw [fall_eq, told, if_neg other.symm, startStandstill, searched, toSearch]
  split
  · simp only [setStandstill]
  · simp only

theorem enterSearch_eq (ap : State → State) {s : State} (other : s.ls.lock ≠ .search) :
    enterSearch ap s = goOnToStopped (departFrom ap s (searched s)) := by
  rw [enterSearch, startStandstill_fall_search other]

/-! ### STANDSTILL_EXPIRY (R58) -/

/-- R58: the timer's count has exceeded the limit. -/
theorem exec_standstillExpiry_of_running {n : Nat} {s : State} (timer : s.ls.standstill = .running n)
    (exceeded : s.cc.active.standstillLimit < n) :
    exec .standstillExpiry s = .next (standstillExpires applyPending s) :=
  congrArg Host.Outcome.next (if_pos ((standstillDue_iff s).2 ⟨n, timer, exceeded⟩))

theorem standstillExpires_stays (ap : State → State) {s : State}
    (h : s.ls.lock = .stopped ∨ s.ls.lock = .freerun
      ∨ (s.ls.lock = .locked ∨ s.ls.lock = .holdover) ∧ s.ag.deadline ≠ none) :
    standstillExpires ap s = setStandstill .expired s := by
  rcases h with stopped | freerun | ⟨locked | holdover, kept⟩
  · simp only [standstillExpires, stopped]
  · simp only [standstillExpires, freerun]
  · simp only [standstillExpires, locked, if_neg kept]
  · simp only [standstillExpires, holdover, if_neg kept]

theorem standstillExpires_falls (ap : State → State) {s : State} (h : s.ls.lock = .search ∨ s.ls.lock = .acquire) :
    standstillExpires ap s = onToStopped (setStandstill .expired s) := by
  rw [onToStopped_eq_fall (s := setStandstill .expired s) h]
  rcases h with search | acquire
  · simp only [standstillExpires, search]
  · simp only [standstillExpires, acquire]

theorem standstillExpires_searches (ap : State → State) {s : State} (h : s.ls.lock = .locked ∨ s.ls.lock = .holdover)
    (missing : s.ag.deadline = none) : standstillExpires ap s = enterSearch ap (setStandstill .expired s) := by
  rcases h with locked | holdover
  · simp only [standstillExpires, locked, if_pos missing]
  · simp only [standstillExpires, holdover, if_pos missing]

/-- R58: an entry into SEARCH that finds the timer expired goes on to STOPPED, after the teardown where the firing set is
left (log entry 18). -/
theorem enterSearch_of_expired {s : State} (other : s.ls.lock ≠ .search) (expired : s.ls.standstill = .expired)
    (commitFree : s.cc.pendingRecord = none) :
    ∃ d, enterSearch applyPending s = onToStopped d ∧ FiringFrame (searched s) d
      ∧ (s.inFiring = true → d.fs.tickets = [] ∧ d.fs.deferred = [] ∧ ∀ i : EntryNo, d.ctc.entries[i].windowOpen = false)
      ∧ (s.inFiring = false → d = searched s) := by
  have frame : FiringFrame (searched s) (departFrom applyPending s (searched s)) := departFrom_frame s commitFree
  refine ⟨departFrom applyPending s (searched s), ?_, frame, fun inside => ?_, fun outside => departFrom_of_outside _ outside _⟩
  · rw [enterSearch_eq _ other, goOnToStopped_eq, if_pos]
    rw [frame.ls]
    exact ⟨.inl rfl, by simp [searched, toSearch, expired]⟩
  · rw [departFrom_of_inside _ inside]
    exact teardown_leaves_nothing commitFree

theorem lockCaused_at (told : Bool) (er : Vector EventPort 4) (p : Port) :
    (lockCaused told er)[p] = { er[p] with lockCause := er[p].lockCause || told } := ofFn_at _ p

theorem lockCaused_twice (er : Vector EventPort 4) : lockCaused true (lockCaused true er) = lockCaused true er := by
  refine vector_ext_at fun p => ?_
  simp only [lockCaused_at, Bool.or_true]

/-- Settles O17: the timer expires, and the lock state says which transition follows. -/
theorem standstillExpiryStopsSearchAndAcquire : Obligations.StandstillExpiryStopsSearchAndAcquire := by
  intro n s timer exceeded
  rw [exec_standstillExpiry_of_running timer exceeded]
  refine ⟨fun stays => ?_, fun low => ?_, fun high missing commitFree => ?_⟩
  · rw [standstillExpires_stays _ stays]
    rfl
  · rw [standstillExpires_falls _ low]
    rfl
  · have other : (setStandstill .expired s).ls.lock ≠ .search := by rcases high with e | e <;> simp [e]
    obtain ⟨d, enters, frame, inside, outside⟩ := enterSearch_of_expired other rfl commitFree
    have timerStill : d.ls.standstill = .expired := by
      rw [frame.ls]
      rfl
    rw [standstillExpires_searches _ high missing, enters]
    refine ⟨onToStopped d, rfl, rfl, timerStill, rfl, rfl, rfl, rfl, ?_, ?_, ?_, inside, fun left => ?_, fun p => ?_,
      frame.cc, frame.pi, frame.stamp, frame.pending⟩
    · simp only [onToStopped, frame.ag]
      rfl
    · simp only [onToStopped, frame.pt]
      rfl
    · simp only [onToStopped, frame.eq]
      rfl
    · rw [outside left]
      exact ⟨rfl, rfl, rfl, lockCaused_twice s.er⟩
    · simp only [onToStopped, lockCaused_at, Bool.or_true]

end Sys2Proof.Proofs
end

section
/-! PROOFS. The SYNTH step (R41, R46, R47): LS judges it and moves the lock state, and what is done before it reaches FS is
`handedOn` (R35, R56, R58 to R69). -/

namespace Sys2Proof.Proofs

open Sys2Proof Sys2Proof.Machine Sys2Proof.Safety

/-! ### What the blocks have reached when a step is judged (R63 to R69) -/

/-- What a judged step has reached before the teardown, the entry into HOLDOVER and the way on to STOPPED, a fall to SEARCH
included. -/
def reached (rep : StepReport) (s : State) : State :=
  let l := lockAfter s.cc.active rep s.ls
  { s with
    ls := l
    ag := if l.lock = .search then invalidAngle s.ag else s.ag
    pt := { s.pt with
      history := if l.lock = .search then [] else trimmed s.cc.active s.ls.lock l.lock s.pt.history }
    eq := { s.eq with
      cycleNoise := if l.lock = .search then 0 else s.eq.cycleNoise
      window := if l.lock = .search then none else s.eq.window }
    er := lockCaused (lockTold s.ls l) s.er }

theorem lockAfter_lock (c : RefConfig) (rep : StepReport) (l : LockSupervisor) :
    (lockAfter c rep l).lock = (lockMoved c rep l).lock := rfl

theorem reached_of_not_search {rep : StepReport} {s : State} (other : (lockMoved s.cc.active rep s.ls).lock ≠ .search) :
    reached rep s = judgedState rep s := by
  simp only [reached, lockAfter_lock, other, if_false, judgedState]

theorem reached_of_search {rep : StepReport} {s : State} {j : LockSupervisor} (other : s.ls.lock ≠ .search)
    (moved : lockMoved s.cc.active rep s.ls = toSearch j) : reached rep s = searched { s with ls := j } := by
  have told : lockTold s.ls (toSearch j) = true := by simp [lockTold, toSearch, other.symm]
  have after : lockAfter s.cc.active rep s.ls = { toSearch j with lockMarks := Vector.replicate 4 false } := by
    rw [lockAfter, moved, if_pos told]
  have toldAfter : lockTold s.ls { toSearch j with lockMarks := Vector.replicate 4 false } = true := told
  rw [reached, after, toldAfter, searched]
  rfl

/-! ### A SYNTH step's moves, as they are handed on (R63 to R67) -/

/-- R68: a departure into SEARCH. -/
theorem handedOn_of_search {s u : State} (search : u.ls.lock = .search) (other : s.ls.lock ≠ .search) :
    handedOn s u = goOnToStopped (departFrom applyPending s u) := by
  have outside : u.inFiring = false := by simp only [State.inFiring, LockSupervisor.inFiring, search]
  have departs : departed s u = departFrom applyPending s u := by
    simp only [departed, departFrom, outside, search, reduceCtorEq, and_true, and_false, if_false]
  rw [handedOn_eq, departs, goOnToStopped_eq, search]
  simp only [other.symm, ne_eq, not_false_eq_true, true_and]

/-- R127: on the way into HOLDOVER FS does its part and no more. -/
theorem handedOn_of_holdover {s u : State} (locked : s.ls.lock = .locked) (holdover : u.ls.lock = .holdover) :
    handedOn s u = holdoverDiscard u := by
  have inside : u.inFiring = true := by simp only [State.inFiring, LockSupervisor.inFiring, holdover]
  have departs : departed s u = holdoverDiscard u := by
    simp only [departed, inside, holdover, locked, Bool.true_eq_false, and_false, if_false, ne_eq, reduceCtorEq,
      not_false_eq_true, and_self, if_true]
  have stays : (holdoverDiscard u).ls.lock = .holdover := by rw [(holdoverDiscard_frame u).ls, holdover]
  rw [handedOn_eq, departs, stays]
  simp only [reduceCtorEq, or_self, false_and, and_false, if_false]

section Moves

variable {rep : StepReport} {before s : State} {j : LockSupervisor} (same : j.lock = s.ls.lock)
  (sameSettle : j.settle = s.ls.settle) (lock : before.ls.lock = s.ls.lock) (settle : before.ls.settle = s.ls.settle)

include same sameSettle lock settle in
theorem enterSearch_eq_handedOn (other : s.ls.lock ≠ .search) (moved : lockMoved s.cc.active rep s.ls = toSearch j) :
    enterSearch applyPending { s with ls := j } = handedOn before (reached rep s) := by
  have sameSet : ({ s with ls := j } : State).inFiring = before.inFiring :=
    inFiring_congr (same.trans lock.symm) (sameSettle.trans settle.symm)
  have otherStill : ({ s with ls := j } : State).ls.lock ≠ .search := fun e => other (same.symm.trans e)
  rw [enterSearch_eq _ otherStill, reached_of_search other moved, departFrom_congr applyPending sameSet,
    handedOn_of_search rfl (lock ▸ other)]

include same lock in
/-- R66, R127: the entry into HOLDOVER from LOCKED. -/
theorem enterHoldover_eq_handedOn (locked : s.ls.lock = .locked)
    (moved : lockMoved s.cc.active rep s.ls = { j with lock := .holdover, settle := 0, holdover := 0 }) :
    enterHoldover { s with ls := j } = handedOn before (judgedState rep s) := by
  have moves : moveLock .holdover { s with ls := { j with settle := 0, holdover := 0 } } = judgedState rep s :=
    moveLock_eq_judgedState (j := { j with settle := 0, holdover := 0 }) same (by simp [locked]) moved
  have holdover : (judgedState rep s).ls.lock = .holdover := by
    rw [← moves, moveLock_eq]
  rw [handedOn_of_holdover (lock.trans locked) holdover, enterHoldover, moves]

include same lock in
/-- R67: a step that HOLDOVER takes without a move. -/
theorem holdover_stays_eq_handedOn (marks : j.lockMarks = s.ls.lockMarks) (holdover : s.ls.lock = .holdover)
    (moved : lockMoved s.cc.active rep s.ls = j) : { s with ls := j } = handedOn before (judgedState rep s) := by
  have untold : lockTold s.ls j = false := by simp [lockTold, same, holdover]
  have stays : judgedState rep s = { s with ls := j } := by
    rw [judgedState_of_untold] <;> simp only [moved, same, marks, untold]
  rw [stays, handedOn_of_stays]
  · intro _
    simp only [State.inFiring, LockSupervisor.inFiring, same, holdover]
  · exact .inl (same.trans lock.symm)

end Moves

/-! ### A SYNTH step, judged (R63 to R67) -/

/-- R67: HOLDOVER counts the step. -/
def holdoverCounted (l : LockSupervisor) : LockSupervisor := { l with holdover := min (l.holdover + 1) 255 }

section Synth

variable {rep : StepReport} (kind : rep.kind = .synth)

include kind

theorem lockMoved_of_acquire_synth (c : RefConfig) {l : LockSupervisor} (h : l.lock = .acquire) :
    lockMoved c rep l =
      if c.missLimit < rep.missCount then toSearch (judged c rep l)
      else if rep.tooth = 0 ∧ c.cleanToLock ≤ (judged c rep l).clean then
        { judged c rep l with lock := .locked, settle := c.settleCycles }
      else judged c rep l := by
  simp only [lockMoved, h, kind, true_and]

theorem lockMoved_of_locked_synth (c : RefConfig) {l : LockSupervisor} (h : l.lock = .locked) :
    lockMoved c rep l =
      if rep.tooth = 0 ∧ (rep.finding = .mismatch ∨ c.indexMissLimit < (judged c rep l).indexMiss
          ∨ c.noisyToUnlock ≤ (judged c rep l).noisy) then toAcquire (judged c rep l)
      else if c.missLimit < rep.missCount then { judged c rep l with lock := .holdover, settle := 0, holdover := 0 }
      else if rep.tooth = 0 then { judged c rep l with settle := (judged c rep l).settle - 1 }
      else judged c rep l := by
  simp only [lockMoved, h, kind, true_and]

theorem lockMoved_of_holdover_synth (c : RefConfig) {l : LockSupervisor} (h : l.lock = .holdover) :
    lockMoved c rep l =
      if c.holdoverLimit ≤ (holdoverCounted (judged c rep l)).holdover then toSearch (holdoverCounted (judged c rep l))
      else if rep.tooth = 0 ∧ rep.finding = .mismatch then toAcquire (holdoverCounted (judged c rep l))
      else holdoverCounted (judged c rep l) := by
  simp only [lockMoved, h, kind, true_and, if_true, reduceCtorEq, false_and, and_false, if_false, holdoverCounted]
  rfl

theorem judgeStep_countHoldover (s : State) :
    judgeStep rep (countHoldover rep (noteSynth rep s)) =
      { s with ls := holdoverCounted (judged s.cc.active rep s.ls) } := by
  have commutes (t : State) : judgeStep rep (countHoldover rep t) = countHoldover rep (judgeStep rep t) := by
    simp only [countHoldover, if_pos kind, judgeStep]
    split <;> rfl
  rw [commutes, judgeStep_noteSynth, countHoldover, if_pos kind]
  rfl

/-- LS judges a SYNTH step in ACQUIRE, LOCKED or HOLDOVER: the judgement, and what is done before the step reaches FS. -/
theorem supervise_synth_eq_handedOn {before s : State} (lock : before.ls.lock = s.ls.lock)
    (settle : before.ls.settle = s.ls.settle)
    (angle : s.ls.lock = .acquire ∨ s.ls.lock = .locked ∨ s.ls.lock = .holdover) :
    supervise applyPending rep s = handedOn before (reached rep s) := by
  have sameLock := judged_lock s.cc.active rep s.ls
  have sameSettle := judged_settle s.cc.active rep s.ls
  have sameMarks := judged_lockMarks s.cc.active rep s.ls
  rcases angle with acquire | locked | holdover
  · have moved := lockMoved_of_acquire_synth kind s.cc.active acquire
    have outside : before.inFiring ≠ true := by simp [State.inFiring, LockSupervisor.inFiring, lock, acquire]
    simp only [supervise, acquire, stepInAcquire, judgeStep_noteSynth, kind, true_and]
    split
    · next tooMany =>
        rw [if_pos tooMany] at moved
        exact enterSearch_eq_handedOn sameLock sameSettle lock settle (by simp [acquire]) moved
    · next few =>
        rw [if_neg few] at moved
        split
        · next locks =>
            rw [if_pos locks] at moved
            rw [reached_of_not_search (by simp [moved])]
            exact enterLocked_eq_handedOn sameLock (fun inside => absurd inside outside) (by simp [acquire]) moved
        · next stays =>
            rw [if_neg stays] at moved
            rw [reached_of_not_search (by simp [moved, acquire])]
            exact judged_eq_handedOn lock settle moved
  · have moved := lockMoved_of_locked_synth kind s.cc.active locked
    simp only [supervise, locked, stepInLocked, judgeStep_noteSynth, kind, true_and]
    split
    · next leaves =>
        rw [if_pos leaves] at moved
        rw [reached_of_not_search (by simp [moved, toAcquire])]
        exact enterAcquire_eq_handedOn sameLock sameSettle lock settle (by simp [locked]) moved
    · next stays =>
        rw [if_neg stays] at moved
        split
        · next tooMany =>
            rw [if_pos tooMany] at moved
            rw [reached_of_not_search (by simp [moved])]
            exact enterHoldover_eq_handedOn sameLock lock locked moved
        · next few =>
            rw [if_neg few] at moved
            split
            · next zero =>
                rw [if_pos zero] at moved
                rw [reached_of_not_search (by simp [moved, locked])]
                exact countSettle_eq_handedOn sameLock sameSettle sameMarks lock settle locked moved
            · next other =>
                rw [if_neg other] at moved
                rw [reached_of_not_search (by simp [moved, locked])]
                exact judged_eq_handedOn lock settle moved
  · have moved := lockMoved_of_holdover_synth kind s.cc.active holdover
    simp only [supervise, holdover, stepInHoldover, judgeStep_countHoldover kind, kind, true_and, reduceCtorEq,
      false_and, and_false, if_false]
    split
    · next tooMany =>
        rw [if_pos tooMany] at moved
        exact enterSearch_eq_handedOn sameLock sameSettle lock settle (by simp [holdover]) moved
    · next few =>
        rw [if_neg few] at moved
        split
        · next leaves =>
            rw [if_pos leaves] at moved
            rw [reached_of_not_search (by simp [moved, toAcquire])]
            exact enterAcquire_eq_handedOn sameLock sameSettle lock settle (by simp [holdover]) moved
        · next stays =>
            rw [if_neg stays] at moved
            rw [reached_of_not_search (by simp [moved, holdoverCounted, holdover])]
            exact holdover_stays_eq_handedOn sameLock lock sameMarks holdover moved

end Synth

/-! ### What FS leaves of a step that is handed on (R56, R58, R105) -/

/-- Where SEARCH or ACQUIRE is entered with the timer expired, the way on to STOPPED (R58). -/
def wentOn (s u : State) : State :=
  if u.ls.lock ≠ s.ls.lock ∧ (u.ls.lock = .search ∨ u.ls.lock = .acquire) ∧ u.ls.standstill = .expired then onToStopped u
  else u

theorem onToStopped_frame {s t : State} (h : FiringFrame s t) : FiringFrame (onToStopped s) (onToStopped t) where
  resetLow := h.resetLow
  stamp := h.stamp
  eq := by simp only [onToStopped, h.eq]
  pt := by simp only [onToStopped, h.pt]
  ag := by simp only [onToStopped, h.ag]
  ls := by simp only [onToStopped, h.ls]
  cc := h.cc
  pi := h.pi
  pending := h.pending
  freeCount := h.freeCount
  owned := h.owned
  quota := h.quota
  entries := h.entries
  tracks := h.tracks
  ports := fun p => by
    simp only [onToStopped, lockCaused_at, Bool.or_true, true_and]
    obtain ⟨mask, slots, watermark, attention, -, claim, pop⟩ := h.ports p
    exact ⟨mask, slots, watermark, attention, claim, pop⟩

theorem departed_frame (s : State) {u : State} (commitFree : u.cc.pendingRecord = none) : FiringFrame u (departed s u) := by
  unfold departed
  split
  · exact teardown_frame commitFree
  · split
    · exact holdoverDiscard_frame u
    · exact .refl u

/-- Where no commit waits, what is done before FS leaves the other blocks but for the way on to STOPPED. -/
theorem wentOn_frame (s : State) {u : State} (commitFree : u.cc.pendingRecord = none) :
    FiringFrame (wentOn s u) (handedOn s u) := by
  have frame := departed_frame s commitFree
  rw [handedOn_eq, frame.ls, wentOn]
  split
  · exact onToStopped_frame frame
  · exact frame

theorem wentOn_cc (s u : State) : (wentOn s u).cc = u.cc := by
  unfold wentOn
  split <;> rfl

/-! ### The SYNTH step of AG (R40, R41, R46, R47) -/

/-- The report of the SYNTH step (R35, R39, R46, R47). -/
def synthReport (s : State) : StepReport :=
  let k := if s.ag.indexPending = true then 0 else (s.ag.tooth + 1) % s.cc.active.toothCount
  ⟨.synth, k, if k = 0 then s.ag.cycle + 1 else s.ag.cycle, s.stamp, min (s.ag.missCount + 1) 65535,
    if s.ag.indexPending = true then
      if (s.ag.tooth + 1) % s.cc.active.toothCount = 0 then .matched else .mismatch
    else if k = 0 then .miss else .unchecked⟩

/-- The tooth that the SYNTH step begins, with the estimate as its deadline (R36, R40, R41). -/
def synthTooth (s : State) : AngleGenerator :=
  { s.ag with
    tooth := (synthReport s).tooth
    cycle := (synthReport s).cycle
    toothStart := s.stamp
    timer := 0
    base := (synthReport s).tooth * 3600 / s.cc.active.toothCount
    indexPending := false
    missCount := min (s.ag.missCount + 1) 65535
    totalMisses := min (s.ag.totalMisses + 1) 65535
    synthSinceReal := true
    lateWindow := s.estimate.bind fun e => if e / 2 = 0 then none else some (e / 2)
    deadline := s.estimate.map fun e => min e 16777215 }

/-- The SYNTH step, handed on by EQ and not yet judged (R7, R35). -/
def synthStepped (s : State) : State :=
  { s with
    ag := synthTooth s
    ls := { s.ls with closingNoise := if (synthReport s).tooth = 0 then s.eq.cycleNoise else s.ls.closingNoise }
    eq := { s.eq with cycleNoise := if (synthReport s).tooth = 0 then 0 else s.eq.cycleNoise } }

theorem lateWindowFor_eq (estimate : Option Nat) :
    lateWindowFor estimate = estimate.bind fun e => if e / 2 = 0 then none else some (e / 2) := by
  cases estimate <;> rfl

/-- R40: the deadline that a SYNTH step sets. -/
theorem setDeadline_synth_of_valid {s : State} (valid : s.ag.valid = true) (freerun : s.ls.lock ≠ .freerun) :
    setDeadline .synth s =
      { s with ag := { s.ag with deadline := s.estimate.map fun e => min e 16777215 } } := by
  have angle : (s.ag.valid && s.ls.lock != .freerun) = true := by simp [valid, freerun]
  simp only [setDeadline, if_pos angle]
  rfl

theorem synthStep_eq (ap : State → State) {s : State} (valid : s.ag.valid = true) (freerun : s.ls.lock ≠ .freerun) :
    synthStep ap s = schedulerStep ap (synthReport s) (supervise ap (synthReport s) (synthStepped s)) := by
  simp only [synthStep, handStep, beginTooth_of_valid _ valid, lateWindowFor_eq]
  rw [setDeadline_synth_of_valid, handOverNoise_eq]
  · simp only [indexCheck_eq, stepReport, synthStepped, synthTooth, synthReport]
    rfl
  · exact valid
  · exact freerun

theorem exec_missDeadlineExpiry_of_due {d : Nat} {s : State} (deadline : s.ag.deadline = some d) (due : d ≤ s.ag.timer) :
    exec .missDeadlineExpiry s = .next (synthStep applyPending s) :=
  congrArg Host.Outcome.next (if_pos ((missDue_iff s).2 ⟨d, deadline, due⟩))

/-- What the other blocks have reached when the SYNTH step is handed on to FS. -/
def synthReached (s : State) : State := reached (synthReport s) (synthStepped s)

/-- R41: the step that the expiry makes is judged, and then FS handles it. -/
theorem synthStep_eq_handedOn {s : State} (valid : s.ag.valid = true)
    (angle : s.ls.lock = .acquire ∨ s.ls.lock = .locked ∨ s.ls.lock = .holdover) :
    synthStep applyPending s = schedulerStep applyPending (synthReport s) (handedOn s (synthReached s)) := by
  have freerun : s.ls.lock ≠ .freerun := by rcases angle with e | e | e <;> simp [e]
  rw [synthStep_eq _ valid freerun,
    supervise_synth_eq_handedOn (before := s) (s := synthStepped s) rfl rfl rfl angle, synthReached]

/-- R7, R8: tooth 0 and the entry into SEARCH both set the cycle noise count to 0. -/
theorem synthReached_cycleNoise (s : State) :
    (synthReached s).eq.cycleNoise =
      if (synthReport s).tooth = 0 ∨ (synthReached s).ls.lock = .search then 0 else s.eq.cycleNoise := by
  show (if (synthReached s).ls.lock = .search then 0 else if (synthReport s).tooth = 0 then 0 else s.eq.cycleNoise) = _
  by_cases search : (synthReached s).ls.lock = .search
  · simp only [search, or_true, if_true]
  · simp only [search, or_false, if_false]

/-- Settles O18: AG begins the tooth, LS judges the step, and FS handles what is handed on. -/
theorem missDeadlineExpirySynthesizesATooth : Obligations.MissDeadlineExpirySynthesizesATooth := by
  intro d s deadline due valid angle
  have reference := closed_reference.synthStep s
  have step := synthStep_eq_handedOn valid angle
  refine ⟨synthStep applyPending s, synthReached s, wentOn s (synthReached s), _, _, synthReport s, synthTooth s, rfl, rfl,
    rfl, rfl, rfl, ?_, rfl, exec_missDeadlineExpiry_of_due deadline due, step, fun commitFree => ?_, reference.stamp,
    reference.pi, reference.pending⟩
  · exact congrArg (fun n => { synthReached s with eq := { (synthReached s).eq with cycleNoise := n } })
      (synthReached_cycleNoise s)
  · have handed : FiringFrame (wentOn s (synthReached s)) (handedOn s (synthReached s)) := wentOn_frame s commitFree
    have same : (handedOn s (synthReached s)).cc = s.cc := handed.cc.trans (wentOn_cc _ _)
    obtain ⟨ag, ls, pt, eq, cc⟩ := blocks_of_schedulerStep (same ▸ commitFree) step
    exact ⟨ag.trans handed.ag, ls.trans handed.ls, pt.trans handed.pt, eq.trans handed.eq, cc.trans same⟩
/-! ### More misses than the limit (R64, R66) -/

/-- R109: a step to another tooth than 0 applies no commit. -/
theorem schedulerStep_frame_of_tooth_ne (ap : State → State) {rep : StepReport} (other : rep.tooth ≠ 0) (s : State) :
    FiringFrame s (schedulerStep ap rep s) := by
  have activates (t : State) : stepActivation ap rep t = t := if_neg (by simp [other])
  rw [schedulerStep, activates]
  exact (stepFlush_frame _ _ s).trans (stepEnumeration_frame rep _)

/-- R60: no cycle is judged at another tooth than 0. -/
theorem judged_of_tooth_ne {rep : StepReport} (other : rep.tooth ≠ 0) (c : RefConfig) (l : LockSupervisor) :
    judged c rep l = { l with synthInCycle := l.synthInCycle || rep.kind == .synth } := if_pos other

/-- R66: the lock state after more misses than the limit, between two teeth of a cycle. -/
theorem lockAfter_of_misses {rep : StepReport} (kind : rep.kind = .synth) (other : rep.tooth ≠ 0) {c : RefConfig}
    (misses : c.missLimit < rep.missCount) {l : LockSupervisor} (locked : l.lock = .locked) :
    lockAfter c rep l = { l with
      lock := .holdover
      settle := 0
      holdover := 0
      synthInCycle := true
      lockMarks := Vector.replicate 4 false } := by
  have moved := lockMoved_of_locked_synth kind c locked
  rw [if_neg (fun h => other h.1), if_pos misses, judged_of_tooth_ne other, kind] at moved
  have told : lockTold l (lockMoved c rep l) = true := by simp [lockTold, moved, locked]
  rw [lockAfter, if_pos told, moved]
  simp

/-- R39: the tooth after the present one, short of the last. -/
theorem synthReport_tooth {s : State} (clear : s.ag.indexPending = false) (short : s.ag.tooth + 1 < s.cc.active.toothCount) :
    (synthReport s).tooth = s.ag.tooth + 1 := by
  simp only [synthReport, clear, Bool.false_eq_true, if_false, Nat.mod_eq_of_lt short]

/-- R64, R66: the misses pass the limit, and the step is handed on in HOLDOVER. -/
theorem synthReached_of_misses {s : State} (locked : s.ls.lock = .locked) (clear : s.ag.indexPending = false)
    (short : s.ag.tooth + 1 < s.cc.active.toothCount) (misses : s.cc.active.missLimit < s.ag.missCount + 1)
    (counted : s.ag.missCount < 65535) :
    (synthReached s).ls = { s.ls with
      lock := .holdover
      settle := 0
      holdover := 0
      synthInCycle := true
      lockMarks := Vector.replicate 4 false } := by
  have other : (synthReport s).tooth ≠ 0 := by rw [synthReport_tooth clear short]; exact Nat.succ_ne_zero _
  have passes : s.cc.active.missLimit < (synthReport s).missCount := by
    show s.cc.active.missLimit < min (s.ag.missCount + 1) 65535
    omega
  have after := lockAfter_of_misses (rep := synthReport s) rfl other passes (l := (synthStepped s).ls) locked
  refine after.trans ?_
  simp only [synthStepped, if_neg other]

/-- Settles O19: the step that the expiry makes enters HOLDOVER and applies no commit, and FS's part of that entry removes
the points and then closes the windows. -/
theorem tooManyMissesEnterHoldover : Obligations.TooManyMissesEnterHoldover := by
  refine ⟨fun d s deadline due locked valid clear short misses counted => ?_,
    fun s => ⟨paused s, paused_iff s, holdoverDiscard_drops_and_closes s⟩⟩
  have other : (synthReport s).tooth ≠ 0 := by rw [synthReport_tooth clear short]; exact Nat.succ_ne_zero _
  have enters := synthReached_of_misses locked clear short misses counted
  have holdover : (synthReached s).ls.lock = .holdover := by rw [enters]
  have told : (synthReached s).er = lockCaused true s.er := by
    have moves : lockTold s.ls (synthReached s).ls = true := by simp [lockTold, enters, locked]
    exact congrArg (fun b => lockCaused b s.er) moves
  have frame : FiringFrame (synthReached s) (synthStep applyPending s) := by
    rw [synthStep_eq_handedOn valid (.inr (.inl locked)), handedOn_of_holdover locked holdover]
    exact (holdoverDiscard_frame _).trans (schedulerStep_frame_of_tooth_ne _ other _)
  refine ⟨synthStep applyPending s, exec_missDeadlineExpiry_of_due deadline due, ?_⟩
  rw [frame.inFiring, State.inFiring, frame.ls, enters]
  refine ⟨rfl, rfl, rfl, rfl, rfl, rfl, rfl, fun p => ?_, frame.cc, frame.pi, frame.pending⟩
  obtain ⟨-, -, -, -, lockCause, -⟩ := frame.ports p
  rw [lockCause, told, lockCaused_at, Bool.or_true]

end Sys2Proof.Proofs
end

section
/-! PROOFS. FREERUN_ON (R50, R70, R128): what the blocks have reached when FS re-times the tooth in progress or handles the
immediate step. -/

namespace Sys2Proof.Proofs

open Sys2Proof Sys2Proof.Machine Sys2Proof.Safety

/-- The hub in FREERUN with the tooth continued, or tooth 0 begun, before FS acts (R36, R50, R70). -/
def freeRunStarted (s : State) : State :=
  { s with
    ls := { s.ls with
      lock := .freerun
      settle := 0
      synthInCycle := false
      closingNoise := if s.ag.valid = true then s.ls.closingNoise else s.eq.cycleNoise
      lockMarks := if s.ls.lock = .freerun then s.ls.lockMarks else Vector.replicate 4 false }
    eq := { s.eq with cycleNoise := if s.ag.valid = true then s.eq.cycleNoise else 0 }
    pt := { s.pt with history := trimmed s.cc.active s.ls.lock .freerun s.pt.history }
    ag := { s.ag with
      valid := true
      freeRunning := true
      tooth := if s.ag.valid = true then s.ag.tooth else 0
      base := if s.ag.valid = true then s.angle.getD (s.ag.tooth * 3600 / s.cc.active.toothCount) else 0
      cycle := if s.ag.valid = true then s.ag.cycle else s.ag.cycle + 1
      toothStart := s.stamp
      timer := 0
      indexPending := false
      deadline := none
      lateWindow := none
      missCount := 0 }
    er := lockCaused (s.ls.lock != .freerun) s.er }

/-- R70: the move to FREERUN, with the change of state told the other way round. -/
theorem moveLock_freerun_eq (s : State) :
    moveLock .freerun { s with ls := { s.ls with settle := 0, synthInCycle := false } } = { s with
      pt := { s.pt with history := trimmed s.cc.active s.ls.lock .freerun s.pt.history }
      ls := { s.ls with
        lock := .freerun
        settle := 0
        synthInCycle := false
        lockMarks := if s.ls.lock = .freerun then s.ls.lockMarks else Vector.replicate 4 false }
      er := lockCaused (s.ls.lock != .freerun) s.er } := by
  rw [moveLock_eq, bne_comm]
  simp only [eq_comm]

theorem startFreeRun_of_valid {s : State} (valid : s.ag.valid = true) :
    startFreeRun s = freerunRetime (freeRunStarted s) := by
  simp only [startFreeRun, moveLock_freerun_eq, freeRunStarted, valid]
  rfl

theorem startFreeRun_of_not_valid {s : State} (invalid : s.ag.valid = false) :
    startFreeRun s = schedulerStep applyPending ⟨.free, 0, s.ag.cycle + 1, s.stamp, 0, .unchecked⟩ (freeRunStarted s) := by
  have off : ¬s.ag.valid = true := by simp [invalid]
  have unjudged (rep : StepReport) (u : State) (freerun : u.ls.lock = .freerun) :
      handStep applyPending rep u = schedulerStep applyPending rep (handOverNoise rep u) := by
    rw [handStep, supervise_of_freerun]
    rw [handOverNoise_eq]
    exact freerun
  simp only [startFreeRun, moveLock_freerun_eq, if_neg off]
  rw [beginTooth_of_valid 0 rfl, unjudged _ _ rfl, handOverNoise_eq]
  simp only [stepReport, freeRunStarted, if_neg off, if_true, Nat.zero_mul, Nat.zero_div]

/-- Where the angle is valid, or no commit waits, FS leaves what the other blocks have reached. -/
theorem startFreeRun_frame {s : State} (free : s.ag.valid = true ∨ s.cc.pendingRecord = none) :
    FiringFrame (freeRunStarted s) (startFreeRun s) := by
  cases valid : s.ag.valid with
  | true =>
      rw [startFreeRun_of_valid valid]
      exact freerunRetime_frame _
  | false =>
      have commitFree : s.cc.pendingRecord = none := free.resolve_left (by simp [valid])
      rw [startFreeRun_of_not_valid valid]
      exact schedulerStep_frame _ commitFree

theorem freerunOn_answers {p : Port} {s : State} (holder : s.cc.holder = some p) :
    Answers (.freerunOn p) p [0x14] [0x00] s (startFreeRun s) := by
  have acts : actFreerunOn p s = (startFreeRun s, Reply.bare .ok) := holderOnly_holder _ holder
  exact answers_of (act := actFreerunOn p) rfl rfl (by rw [acts]) (by rw [acts]; rfl)

/-- Settles O52: the move to FREERUN and the angle's base, and then FS on the tooth in progress or on tooth 0. -/
theorem freerunOnEntersFreerun : Obligations.FreerunOnEntersFreerun := by
  intro p s holder
  have reference := closed_reference.startFreeRun s
  refine ⟨startFreeRun s, freeRunStarted s, freerunOn_answers holder, rfl, ?_, fun free => ?_, reference.pi,
    reference.stamp, reference.pending⟩
  · cases valid : s.ag.valid with
    | true => exact startFreeRun_of_valid valid
    | false => exact startFreeRun_of_not_valid valid
  · have frame := startFreeRun_frame free
    refine ⟨frame.ag, frame.ls, frame.pt, frame.eq, frame.cc, frame.inFiring, fun q => ?_⟩
    obtain ⟨-, -, -, -, lockCause, -⟩ := frame.ports q
    exact lockCause.trans (by simp [freeRunStarted, lockCaused])

end Sys2Proof.Proofs
end

section
/-! PROOFS. The cam table and the tracks as the laws of ownership and of windows read them (R82 to R84, R90, R139): the
moves that the hub makes there, what each does to the laws, and the package of what a law must survive. -/

namespace Sys2Proof.Proofs

open Sys2Proof Sys2Proof.Machine Sys2Proof.Safety

/-! ### The table -/

/-- What the laws read of an entry. -/
structure EntryFacts where
  state : EntryState
  owner : Option Port
  action : Action
  track : Option TrackNo
  windowOpen : Bool

/-- What the laws read of the hub. -/
structure Table where
  entry : EntryNo → EntryFacts
  owned : Vector Nat 4
  trackOwner : TrackNo → Option Port
  windowCount : TrackNo → Nat

def factsOf (e : Entry) : EntryFacts := ⟨e.state, e.owner, e.image.action, e.image.track, e.windowOpen⟩

def tableOf (s : State) : Table where
  entry := fun i => factsOf s.ctc.entries[i]
  owned := s.ctc.owned
  trackOwner := fun k => s.td[k].owner
  windowCount := fun k => s.td[k].windowCount

/-- The entry is ARMING or LIVE. -/
def EntryFacts.armed (e : EntryFacts) : Prop := e.state = .arming ∨ e.state = .live

/-- The entry holds track k up: it is LIVE with its window open and names the track. -/
def EntryFacts.holdsUp (k : TrackNo) (e : EntryFacts) : Bool :=
  e.state == .live && e.windowOpen && e.track == some k

/-! ### The moves -/

/-- The entry with its window open or closed. -/
def EntryFacts.setOpen (isOpen : Bool) (e : EntryFacts) : EntryFacts := { e with windowOpen := isOpen }

/-- A FREE entry (R80). -/
def EntryFacts.free : EntryFacts := ⟨.free, none, .note, none, false⟩

/-- ARMING becomes LIVE (R91). -/
def EntryFacts.activated (e : EntryFacts) : EntryFacts := { e with state := if e.state = .arming then .live else e.state }

namespace Table

/-- The table with one entry replaced. -/
def setEntry (T : Table) (i : EntryNo) (e : EntryFacts) : Table := { T with entry := Function.update T.entry i e }

/-- The table with the window count of one track changed, if a track is named. -/
def count (T : Table) (t : Option TrackNo) (f : Nat → Nat) : Table :=
  { T with windowCount := fun k => if t = some k then f (T.windowCount k) else T.windowCount k }

/-- Entry i goes to a state. -/
def withState (T : Table) (i : EntryNo) (st : EntryState) : Table := T.setEntry i { T.entry i with state := st }

/-- The window of entry i opens (R118). -/
def opened (T : Table) (i : EntryNo) : Table :=
  (T.setEntry i ((T.entry i).setOpen true)).count (T.entry i).track (· + 1)

/-- The window of entry i closes (R119, R123). -/
def closed (T : Table) (i : EntryNo) : Table :=
  (T.setEntry i ((T.entry i).setOpen false)).count (T.entry i).track (· - 1)

/-- Every ARMING entry becomes LIVE (R91). -/
def activated (T : Table) : Table := { T with entry := fun i => (T.entry i).activated }

/-- Entry i is handed to port p (R85). -/
def allocated (T : Table) (p : Port) (i : EntryNo) : Table :=
  { T.setEntry i ⟨.held, some p, .note, none, false⟩ with owned := vmod T.owned p (· + 1) }

/-- Entry i takes the action and the track of an image (R87). -/
def written (T : Table) (i : EntryNo) (action : Action) (track : Option TrackNo) : Table :=
  T.setEntry i { T.entry i with action := action, track := track }

/-- Port p gives entry i up (R95). -/
def freed (T : Table) (p : Port) (i : EntryNo) : Table :=
  { T.setEntry i .free with owned := vmod T.owned p (· - 1) }

/-- A law of the table that survives every move the hub makes there, each under the condition at which it is made. -/
structure Law (L : Table → Prop) : Prop where
  reset : L (tableOf State.reset)
  window : ∀ {T i}, L T → (T.entry i).windowOpen = true → (T.entry i).state = .live ∧ (T.entry i).action = .window
  opened : ∀ {T i}, L T → (T.entry i).state = .live → (T.entry i).action = .window → (T.entry i).windowOpen = false →
    L (T.opened i)
  closed : ∀ {T i}, L T → (T.entry i).windowOpen = true → L (T.closed i)
  held : ∀ {T i}, L T → (T.entry i).armed → (T.entry i).windowOpen = false → L (T.withState i .held)
  activated : ∀ {T}, L T → L T.activated
  allocated : ∀ {T i} p, L T → (T.entry i).state = .free → L (T.allocated p i)
  written : ∀ {T i} action track, L T → (T.entry i).state = .held → L (T.written i action track)
  armed : ∀ {T i st}, L T → (T.entry i).state = .held → st = .arming ∨ st = .live →
    (∀ k, (T.entry i).track = some k → T.trackOwner k = (T.entry i).owner) → L (T.withState i st)
  freed : ∀ {T i p}, L T → (T.entry i).owner = some p → (T.entry i).windowOpen = false → L (T.freed p i)
  settled : ∀ {T p}, L T → (∀ i, (T.entry i).owner ≠ some p) → L { T with owned := vmod T.owned p fun _ => 0 }
  assigned : ∀ {T k} p, L T → T.trackOwner k = none → L { T with trackOwner := Function.update T.trackOwner k (some p) }
  released : ∀ {T p} owner, L T →
    (∀ k, owner k = T.trackOwner k ∨ T.trackOwner k = some p
      ∧ ∀ i, (T.entry i).armed → (T.entry i).owner = some p → (T.entry i).track ≠ some k) →
    L { T with trackOwner := owner }

/-! ### One entry changed -/

section OneEntry

variable (T : Table) (i : EntryNo)

@[simp] theorem setEntry_entry_self (e : EntryFacts) : (T.setEntry i e).entry i = e := Function.update_self ..

theorem setEntry_entry_ne {j : EntryNo} (h : j ≠ i) (e : EntryFacts) : (T.setEntry i e).entry j = T.entry j :=
  Function.update_of_ne h ..

/-- A change of one entry moves a count of entries by that entry alone. -/
theorem countP_setEntry (test : EntryFacts → Bool) (e : EntryFacts) :
    ((List.finRange 64).countP fun j => test ((T.setEntry i e).entry j)) + (test (T.entry i)).toNat
      = ((List.finRange 64).countP fun j => test (T.entry j)) + (test e).toNat := by
  have parts := List.perm_cons_erase (List.mem_finRange i)
  have others : ((List.finRange 64).erase i).countP (fun j => test ((T.setEntry i e).entry j))
      = ((List.finRange 64).erase i).countP fun j => test (T.entry j) := by
    refine List.countP_congr fun j hj => ?_
    rw [T.setEntry_entry_ne i ((List.Nodup.mem_erase_iff (List.nodup_finRange 64)).1 hj).1]
  rw [parts.countP_eq, parts.countP_eq, List.countP_cons, List.countP_cons, others, setEntry_entry_self]
  cases test (T.entry i) <;> cases test e <;> simp

end OneEntry

end Table

/-! ### Windows (R83, R139) -/

/-- R83, R139: `WindowsSound` on the table. -/
def Windows (T : Table) : Prop :=
  (∀ i, (T.entry i).windowOpen = true → (T.entry i).state = .live ∧ (T.entry i).action = .window)
    ∧ ∀ k, T.windowCount k = (List.finRange 64).countP fun i => (T.entry i).holdsUp k

theorem windowsSound_iff (s : State) : WindowsSound s ↔ Windows (tableOf s) := Iff.rfl

theorem EntryFacts.holdsUp_of_closed {e : EntryFacts} (h : e.windowOpen = false) (k : TrackNo) : e.holdsUp k = false := by
  simp [EntryFacts.holdsUp, h]

theorem EntryFacts.holdsUp_of_open {e : EntryFacts} (isOpen : e.windowOpen = true) (live : e.state = .live) (k : TrackNo) :
    e.holdsUp k = (e.track == some k) := by
  simp only [EntryFacts.holdsUp, isOpen, live, Bool.and_true, BEq.rfl, Bool.true_and]

namespace Windows

variable {T : Table} {i : EntryNo} (h : Windows T)

include h

/-- The law survives a change of one entry that the window counts follow. -/
theorem setEntry {U : Table} {e : EntryFacts} (entry : U.entry = (T.setEntry i e).entry)
    (isOpen : e.windowOpen = true → e.state = .live ∧ e.action = .window)
    (counts : ∀ k, U.windowCount k + ((T.entry i).holdsUp k).toNat = T.windowCount k + (e.holdsUp k).toNat) :
    Windows U := by
  obtain ⟨stands, sums⟩ := h
  rw [Windows, entry]
  refine ⟨fun j => ?_, fun k => ?_⟩
  · by_cases same : j = i
    · subst same
      rwa [T.setEntry_entry_self]
    · rw [T.setEntry_entry_ne i same]
      exact stands j
  · have moved := T.countP_setEntry i (EntryFacts.holdsUp k) e
    have here := counts k
    have before := sums k
    omega

/-- The law survives a change of an entry whose window is closed before and after. -/
theorem setEntry_of_closed {U : Table} {e : EntryFacts} (entry : U.entry = (T.setEntry i e).entry)
    (count : U.windowCount = T.windowCount) (before : (T.entry i).windowOpen = false) (after : e.windowOpen = false) :
    Windows U := by
  refine h.setEntry entry (by simp [after]) fun k => ?_
  rw [count, EntryFacts.holdsUp_of_closed before, EntryFacts.holdsUp_of_closed after]

/-- R83: the window of an entry that is not LIVE is closed. -/
theorem closed_of_state {st : EntryState} (state : (T.entry i).state = st) (other : st ≠ .live) :
    (T.entry i).windowOpen = false :=
  Bool.eq_false_iff.2 fun isOpen => other (state.symm.trans (h.1 i isOpen).1)

/-- R139: a track that an open window names counts it. -/
theorem count_pos {k : TrackNo} (isOpen : (T.entry i).windowOpen = true) (track : (T.entry i).track = some k) :
    1 ≤ T.windowCount k := by
  rw [h.2 k]
  refine List.countP_pos_iff.2 ⟨i, List.mem_finRange i, ?_⟩
  rw [EntryFacts.holdsUp_of_open isOpen (h.1 i isOpen).1]
  exact beq_iff_eq.2 track

theorem opened (live : (T.entry i).state = .live) (action : (T.entry i).action = .window)
    (closed : (T.entry i).windowOpen = false) : Windows (T.opened i) := by
  refine h.setEntry rfl (fun _ => ⟨live, action⟩) fun k => ?_
  rw [EntryFacts.holdsUp_of_closed closed, EntryFacts.holdsUp_of_open (e := (T.entry i).setOpen true) rfl live]
  by_cases named : (T.entry i).track = some k <;>
    simp [Table.opened, Table.count, Table.setEntry, EntryFacts.setOpen, named]

theorem closed (isOpen : (T.entry i).windowOpen = true) : Windows (T.closed i) := by
  obtain ⟨live, -⟩ := h.1 i isOpen
  refine h.setEntry (e := (T.entry i).setOpen false) rfl (fun opens => absurd opens Bool.false_ne_true) fun k => ?_
  rw [EntryFacts.holdsUp_of_open isOpen live, EntryFacts.holdsUp_of_closed (e := (T.entry i).setOpen false) rfl]
  by_cases named : (T.entry i).track = some k
  · have pos := h.count_pos isOpen named
    simpa [Table.closed, Table.count, Table.setEntry, named] using Nat.sub_add_cancel pos
  · simp [Table.closed, Table.count, Table.setEntry, named]

/-- R91: an ARMING entry has its window closed, so none that becomes LIVE holds a track up. -/
theorem activated : Windows T.activated := by
  have closed (j : EntryNo) (arming : (T.entry j).state = .arming) : (T.entry j).windowOpen = false :=
    h.closed_of_state arming (by decide)
  refine ⟨fun j isOpen => ?_, fun k => (h.2 k).trans (List.countP_congr fun j _ => ?_)⟩
  · obtain ⟨live, action⟩ := h.1 j isOpen
    exact ⟨by simp [Table.activated, EntryFacts.activated, live], action⟩
  · by_cases arming : (T.entry j).state = .arming
    · simp [Table.activated, EntryFacts.activated, EntryFacts.holdsUp, arming, closed j arming]
    · simp [Table.activated, EntryFacts.activated, arming]

end Windows

/-- R103: after device reset every entry is FREE. -/
theorem tableOf_reset_entry (i : EntryNo) : (tableOf State.reset).entry i = .free := by
  simp [tableOf, factsOf, State.reset, CamTable.reset, Entry.default, EntryImage.default, EntryFacts.free]

theorem windows_reset : Windows (tableOf State.reset) := by
  have count (k : TrackNo) : (tableOf State.reset).windowCount k = 0 := by
    simp [tableOf, State.reset, Track.default]
  refine ⟨fun i => ?_, fun k => ?_⟩
  · simp [tableOf_reset_entry, EntryFacts.free]
  · simp only [count, tableOf_reset_entry]
    exact (List.countP_eq_zero.2 fun _ _ => Bool.false_ne_true).symm

/-- R83, R139: the window law survives every move. -/
theorem windows_law : Table.Law Windows where
  reset := windows_reset
  window := fun h => h.1 _
  opened := Windows.opened
  closed := Windows.closed
  held := fun h _ closed => h.setEntry_of_closed rfl rfl closed closed
  activated := Windows.activated
  allocated := fun _ h free => h.setEntry_of_closed rfl rfl (h.closed_of_state free (by decide)) rfl
  written := fun _ _ h held =>
    h.setEntry_of_closed rfl rfl (h.closed_of_state held (by decide)) (h.closed_of_state held (by decide))
  armed := fun h held _ _ =>
    h.setEntry_of_closed rfl rfl (h.closed_of_state held (by decide)) (h.closed_of_state held (by decide))
  freed := fun h _ closed => h.setEntry_of_closed rfl rfl closed rfl
  settled := fun h _ => h
  assigned := fun _ h _ => h
  released := fun _ h _ => h

/-! ### Ownership (R82, R84, R90) -/

/-- R82, R84: `CamTableSound` on the table. -/
def Ownership (T : Table) : Prop :=
  (∀ i, (T.entry i).state = .free ↔ (T.entry i).owner = none)
    ∧ ∀ p : Port, T.owned[p] = (List.finRange 64).countP fun i => (T.entry i).owner == some p

/-- R90: `ArmedTracksOwned` on the table. -/
def TrackOwnership (T : Table) : Prop :=
  ∀ i k, (T.entry i).armed → (T.entry i).track = some k → T.trackOwner k = (T.entry i).owner

theorem camTableSound_iff (s : State) : CamTableSound s ↔ Ownership (tableOf s) := Iff.rfl

theorem armedTracksOwned_iff (s : State) : ArmedTracksOwned s ↔ TrackOwnership (tableOf s) := Iff.rfl

/-- The law survives a change of one entry that the owned counts follow. -/
theorem Ownership.setEntry {T U : Table} (h : Ownership T) {i : EntryNo} {e : EntryFacts}
    (entry : U.entry = (T.setEntry i e).entry) (free : e.state = .free ↔ e.owner = none)
    (counts : ∀ p : Port,
      U.owned[p] + ((T.entry i).owner == some p).toNat = T.owned[p] + (e.owner == some p).toNat) :
    Ownership U := by
  obtain ⟨frees, sums⟩ := h
  rw [Ownership, entry]
  refine ⟨fun j => ?_, fun p => ?_⟩
  · by_cases same : j = i
    · subst same
      rwa [T.setEntry_entry_self]
    · rw [T.setEntry_entry_ne i same]
      exact frees j
  · have moved := T.countP_setEntry i (fun e => e.owner == some p) e
    have here := counts p
    have before := sums p
    omega

/-- The law survives a change of one entry that keeps its owner, where it is FREE neither before nor after. -/
theorem Ownership.setEntry_of_owner {T U : Table} (h : Ownership T) {i : EntryNo} {e : EntryFacts}
    (entry : U.entry = (T.setEntry i e).entry) (owned : U.owned = T.owned) (owner : e.owner = (T.entry i).owner)
    (before : (T.entry i).state ≠ .free) (after : e.state ≠ .free) : Ownership U := by
  have taken : (T.entry i).owner ≠ none := fun none => before ((h.1 i).2 none)
  exact h.setEntry entry (by simp [owner, after, taken]) fun p => by rw [owner, owned]

/-- The law survives a change of one entry that, where it is armed, names a track of its owner. -/
theorem TrackOwnership.setEntry {T U : Table} (h : TrackOwnership T) {i : EntryNo} {e : EntryFacts}
    (entry : U.entry = (T.setEntry i e).entry) (trackOwner : U.trackOwner = T.trackOwner)
    (here : ∀ k, e.armed → e.track = some k → T.trackOwner k = e.owner) : TrackOwnership U := by
  intro j k
  rw [entry, trackOwner]
  by_cases same : j = i
  · subst same
    rw [T.setEntry_entry_self]
    exact here k
  · rw [T.setEntry_entry_ne i same]
    exact h j k

/-- The three laws together, which every step keeps. -/
structure TableSound (T : Table) : Prop where
  ownership : Ownership T
  tracks : TrackOwnership T
  windows : Windows T

theorem EntryFacts.armed_ne_free {e : EntryFacts} (h : e.armed) : e.state ≠ .free := by
  rcases h with h | h <;> simp [h]

theorem EntryFacts.not_armed_of_held {e : EntryFacts} (h : e.state = .held) : ¬e.armed := by
  simp [EntryFacts.armed, h]

namespace TableSound

variable {T : Table} {i : EntryNo} (h : TableSound T)

include h

/-- An armed entry that keeps its owner and its track, and is not FREE after, leaves ownership as it was. -/
theorem lapses {U : Table} {e : EntryFacts} (entry : U.entry = (T.setEntry i e).entry) (owned : U.owned = T.owned)
    (trackOwner : U.trackOwner = T.trackOwner) (owner : e.owner = (T.entry i).owner)
    (track : e.track = (T.entry i).track) (before : (T.entry i).armed) (after : e.state ≠ .free) (windows : Windows U) :
    TableSound U where
  ownership := h.ownership.setEntry_of_owner entry owned owner (EntryFacts.armed_ne_free before) after
  tracks := h.tracks.setEntry entry trackOwner fun k _ named => (h.tracks i k before (track ▸ named)).trans owner.symm
  windows := windows

end TableSound

theorem tableSound_reset : TableSound (tableOf State.reset) where
  ownership := by
    have owned (p : Port) : (tableOf State.reset).owned[p] = 0 := by
      simp [tableOf, State.reset, CamTable.reset]
    refine ⟨fun i => by simp [tableOf_reset_entry, EntryFacts.free], fun p => ?_⟩
    simp only [owned, tableOf_reset_entry]
    exact (List.countP_eq_zero.2 fun _ _ => Bool.false_ne_true).symm
  tracks := fun i _ armed => absurd ((tableOf_reset_entry i).symm ▸ rfl) (EntryFacts.armed_ne_free armed)
  windows := windows_reset

/-- R82: an armed entry has an owner. -/
theorem Ownership.owner_of_armed {T : Table} (h : Ownership T) {i : EntryNo} (armed : (T.entry i).armed) :
    (T.entry i).owner ≠ none :=
  fun none => EntryFacts.armed_ne_free armed ((h.1 i).2 none)

/-- R84: a port that owns an entry has it counted. -/
theorem Ownership.owned_pos {T : Table} (h : Ownership T) {i : EntryNo} {p : Port} (owner : (T.entry i).owner = some p) :
    1 ≤ T.owned[p] := by
  rw [h.2 p]
  exact List.countP_pos_iff.2 ⟨i, List.mem_finRange i, beq_iff_eq.2 owner⟩

namespace TableSound

variable {T : Table} (h : TableSound T)

include h

theorem activated : TableSound T.activated where
  ownership := by
    refine ⟨fun i => ?_, h.ownership.2⟩
    have free := h.ownership.1 i
    by_cases arming : (T.entry i).state = .arming
    · simpa [Table.activated, EntryFacts.activated, arming] using free
    · simpa [Table.activated, EntryFacts.activated, arming] using free
  tracks := by
    refine fun i k armed => h.tracks i k ?_
    by_cases arming : (T.entry i).state = .arming
    · exact .inl arming
    · simpa [Table.activated, EntryFacts.activated, EntryFacts.armed, arming] using armed
  windows := h.windows.activated

theorem allocated {i : EntryNo} (p : Port) (free : (T.entry i).state = .free) : TableSound (T.allocated p i) where
  ownership := by
    have owner : (T.entry i).owner = none := (h.ownership.1 i).1 free
    refine h.ownership.setEntry rfl (by simp) fun q => ?_
    rw [owner]
    by_cases same : p = q
    · subst same
      simp [Table.allocated]
    · simp [Table.allocated, vmod_ne _ _ _ _ same, same]
  tracks := h.tracks.setEntry rfl rfl fun _ armed => absurd armed (EntryFacts.not_armed_of_held rfl)
  windows := windows_law.allocated p h.windows free

theorem written {i : EntryNo} (action : Action) (track : Option TrackNo) (held : (T.entry i).state = .held) :
    TableSound (T.written i action track) where
  ownership := h.ownership.setEntry_of_owner rfl rfl rfl (by simp [held]) (by simp [held])
  tracks := h.tracks.setEntry rfl rfl fun _ armed => absurd armed (EntryFacts.not_armed_of_held held)
  windows := windows_law.written action track h.windows held

theorem armed {i : EntryNo} {st : EntryState} (held : (T.entry i).state = .held) (state : st = .arming ∨ st = .live)
    (owned : ∀ k, (T.entry i).track = some k → T.trackOwner k = (T.entry i).owner) : TableSound (T.withState i st) where
  ownership := h.ownership.setEntry_of_owner rfl rfl rfl (by simp [held]) (EntryFacts.armed_ne_free (e := ⟨st, _, _, _, _⟩) state)
  tracks := h.tracks.setEntry rfl rfl fun k _ => owned k
  windows := windows_law.armed h.windows held state owned

theorem freed {i : EntryNo} {p : Port} (owner : (T.entry i).owner = some p) (closed : (T.entry i).windowOpen = false) :
    TableSound (T.freed p i) where
  ownership := by
    refine h.ownership.setEntry rfl (by simp [EntryFacts.free]) fun q => ?_
    rw [owner]
    by_cases same : p = q
    · subst same
      have pos := h.ownership.owned_pos owner
      simpa [-Fin.getElem_fin, Table.freed, vmod_self, EntryFacts.free] using Nat.sub_add_cancel pos
    · simp [-Fin.getElem_fin, Table.freed, vmod_ne _ _ _ _ same, same, EntryFacts.free]
  tracks := h.tracks.setEntry rfl rfl fun _ armed => absurd rfl (EntryFacts.armed_ne_free armed)
  windows := windows_law.freed h.windows owner closed

/-- R84: a port with no entry has an owned count of 0 already. -/
theorem settled {p : Port} (gone : ∀ i, (T.entry i).owner ≠ some p) :
    TableSound { T with owned := vmod T.owned p fun _ => 0 } where
  ownership := by
    have zero : T.owned[p] = 0 := by
      rw [h.ownership.2 p]
      exact List.countP_eq_zero.2 fun i _ => by simpa using gone i
    rw [vmod_id _ _ _ zero.symm]
    exact h.ownership
  tracks := h.tracks
  windows := h.windows

/-- R82, R90: no armed entry names a track that nobody owns. -/
theorem assigned {k : TrackNo} (p : Port) (unowned : T.trackOwner k = none) :
    TableSound { T with trackOwner := Function.update T.trackOwner k (some p) } where
  ownership := h.ownership
  tracks := by
    intro i j armed named
    have owner := h.tracks i j armed named
    have other : j ≠ k := by
      rintro rfl
      exact h.ownership.owner_of_armed armed (owner.symm.trans unowned)
    exact (Function.update_of_ne other _ _).trans owner
  windows := h.windows

/-- R134: an armed entry that names a track of p is an entry of p. -/
theorem released {p : Port} (owner : TrackNo → Option Port)
    (unused : ∀ k, owner k = T.trackOwner k ∨ T.trackOwner k = some p
      ∧ ∀ i, (T.entry i).armed → (T.entry i).owner = some p → (T.entry i).track ≠ some k) :
    TableSound { T with trackOwner := owner } where
  ownership := h.ownership
  tracks := by
    intro i k armed named
    have owns := h.tracks i k armed named
    rcases unused k with same | ⟨owned, free⟩
    · exact same.trans owns
    · exact absurd named (free i armed (owns.symm.trans owned))
  windows := h.windows

end TableSound

/-- The three laws survive every move together. -/
theorem tableSound_law : Table.Law TableSound where
  reset := tableSound_reset
  window := fun h => h.windows.1 _
  opened := fun h live action closed =>
    h.lapses rfl rfl rfl rfl rfl (.inr live) (EntryFacts.armed_ne_free (.inr live)) (h.windows.opened live action closed)
  closed := fun {T i} h isOpen =>
    have live := (h.windows.1 _ isOpen).1
    h.lapses (e := (T.entry i).setOpen false) rfl rfl rfl rfl rfl (.inr live) (EntryFacts.armed_ne_free (.inr live)) (h.windows.closed isOpen)
  held := fun h armed closed => h.lapses rfl rfl rfl rfl rfl armed (by simp) (windows_law.held h.windows armed closed)
  activated := TableSound.activated
  allocated := fun p h free => h.allocated p free
  written := fun action track h held => h.written action track held
  armed := fun h held state owned => h.armed held state owned
  freed := fun h owner closed => h.freed owner closed
  settled := fun h gone => h.settled gone
  assigned := fun p h unowned => h.assigned p unowned
  released := fun owner h unused => h.released owner unused

end Sys2Proof.Proofs
end

section
/-! PROOFS. What the Firing Scheduler does to the table (R91, R97, R99, R106 to R111, R117 to R128): every operation is a
sequence of moves, so a law that survives the moves survives it. -/

namespace Sys2Proof.Proofs

open Sys2Proof Sys2Proof.Machine Sys2Proof.Safety

/-! ### Operations that leave the table -/

@[simp] theorem tableOf_post (ev : Event) (s : State) : tableOf (post ev s) = tableOf s := rfl

@[simp] theorem tableOf_postEntry (kind : EventKind) (o : Occasion) (i : EntryNo) (s : State) :
    tableOf (postEntry kind o i s) = tableOf s := by
  simp only [tableOf, postEntry_ctc, postEntry_td]

@[simp] theorem tableOf_removePoints (i : EntryNo) (s : State) : tableOf (removePoints i s) = tableOf s := rfl

@[simp] theorem tableOf_markTaken (i : EntryNo) (pt : Point) (s : State) : tableOf (markTaken i pt s) = tableOf s := rfl

@[simp] theorem tableOf_refuseStart (o : Occasion) (i : EntryNo) (s : State) :
    tableOf (refuseStart o i s) = tableOf s := by
  unfold refuseStart
  split
  · exact tableOf_postEntry _ o i s
  · rfl

@[simp] theorem tableOf_clearTaken (cycle : Cycle) (s : State) : tableOf (clearTaken cycle s) = tableOf s := by
  unfold clearTaken
  split <;> rfl

@[simp] theorem tableOf_addTicket (t : Ticket) (s : State) : tableOf (addTicket t s) = tableOf s := by
  unfold addTicket
  split <;> rfl

@[simp] theorem tableOf_retimeTickets (b stop period : Nat) (s : State) :
    tableOf (retimeTickets b stop period s) = tableOf s := rfl

/-- A change of every track that keeps owner and window count leaves the table. -/
theorem tableOf_tracks {s t : State} (ctc : t.ctc = s.ctc)
    (tracks : ∀ k : TrackNo, t.td[k].owner = s.td[k].owner ∧ t.td[k].windowCount = s.td[k].windowCount) :
    tableOf t = tableOf s := by
  simp only [tableOf, ctc, tracks]

theorem tableOf_modTrack {k : TrackNo} {f : Track → Track} (s : State)
    (same : ∀ t, (f t).owner = t.owner ∧ (f t).windowCount = t.windowCount) : tableOf (s.modTrack k f) = tableOf s := by
  refine tableOf_tracks rfl fun j => ?_
  rw [State.modTrack_td, vmod_at]
  split
  · exact same _
  · exact ⟨rfl, rfl⟩

theorem tableOf_onTrack {k : Option TrackNo} {f : Track → Track} (s : State)
    (same : ∀ t, (f t).owner = t.owner ∧ (f t).windowCount = t.windowCount) : tableOf (onTrack k f s) = tableOf s := by
  unfold onTrack
  split
  · rfl
  · exact tableOf_modTrack s same

@[simp] theorem tableOf_startAction (im : EntryImage) (s : State) : tableOf (startAction im s) = tableOf s := by
  unfold startAction
  split
  · rfl
  · exact tableOf_onTrack s fun _ => ⟨rfl, rfl⟩
  · exact tableOf_onTrack s fun _ => ⟨rfl, rfl⟩
  · split
    · rfl
    · exact tableOf_onTrack s fun _ => ⟨rfl, rfl⟩
  · rfl

@[simp] theorem tableOf_applyOnLoss (s : State) : tableOf (applyOnLoss s) = tableOf s := by
  refine tableOf_tracks rfl fun k => ?_
  rw [applyOnLoss_td, vall_at]
  unfold Track.onLoss
  split <;> exact ⟨rfl, rfl⟩

/-! ### Operations that are moves -/

theorem tableOf_modEntry (s : State) (i : EntryNo) (f : Entry → Entry) :
    tableOf (s.modEntry i f) = (tableOf s).setEntry i (factsOf (f s.ctc.entries[i])) := by
  have entries : (fun j => factsOf (s.modEntry i f).ctc.entries[j])
      = Function.update (tableOf s).entry i (factsOf (f s.ctc.entries[i])) := by
    funext j
    rw [State.modEntry_ctc_entries]
    by_cases same : j = i
    · subst same
      rw [vmod_self, Function.update_self]
    · rw [vmod_ne _ _ _ _ (Ne.symm same), Function.update_of_ne same]
      rfl
  simp only [tableOf, Table.setEntry, entries, State.modEntry_ctc_owned, State.modEntry_td]

/-- A change of an entry that the laws do not read leaves the table. -/
theorem tableOf_modEntry_of_facts {s : State} {i : EntryNo} {f : Entry → Entry}
    (same : factsOf (f s.ctc.entries[i]) = factsOf s.ctc.entries[i]) : tableOf (s.modEntry i f) = tableOf s := by
  rw [tableOf_modEntry, same]
  exact congrArg (fun entry => { tableOf s with entry := entry }) (Function.update_eq_self i (tableOf s).entry)

theorem tableOf_onTrack_count (k : Option TrackNo) (f : Track → Track) (g : Nat → Nat) (s : State)
    (counts : ∀ t, (f t).owner = t.owner ∧ (f t).windowCount = g t.windowCount) :
    tableOf (onTrack k f s) = (tableOf s).count k g := by
  simp only [tableOf, Table.count, onTrack_ctc, onTrack_at, Table.mk.injEq, true_and]
  refine ⟨funext fun j => ?_, funext fun j => ?_⟩
  · split
    · exact (counts _).1
    · rfl
  · split
    · exact (counts _).2
    · rfl

theorem tableOf_spend (o : Occasion) (i : EntryNo) (s : State) :
    tableOf (spend o i s) = (tableOf s).withState i .held := by
  unfold spend
  rw [tableOf_postEntry, tableOf_modEntry]
  rfl

theorem tableOf_closeWindow (o : Occasion) (i : EntryNo) (s : State) :
    tableOf (closeWindow o i s) = (tableOf s).closed i := by
  unfold closeWindow
  rw [tableOf_postEntry, tableOf_onTrack_count _ Track.windowDown (· - 1) _ fun _ => ⟨rfl, rfl⟩, tableOf_modEntry]
  rfl

theorem tableOf_activateArming (s : State) : tableOf (activateArming s) = (tableOf s).activated := by
  have entries : (fun i : EntryNo => factsOf (activateArming s).ctc.entries[i])
      = (tableOf s).activated.entry := by
    funext i
    rw [activateArming_ctc_entries, vall_at]
    by_cases arming : s.ctc.entries[i].state = .arming <;>
      simp [-Fin.getElem_fin, tableOf, factsOf, Table.activated, EntryFacts.activated, arming]
  rw [tableOf, entries]
  simp only [activateArming_ctc_owned, activateArming_td]
  rfl

/-! ### Operations under a law that survives the moves -/

/-- The operation keeps the law of the table. -/
def KeepsTable (L : Table → Prop) (f : State → State) : Prop := ∀ s, L (tableOf s) → L (tableOf (f s))

section Law

variable {L : Table → Prop} (law : Table.Law L)

/-- A change of every track that the laws do not read keeps them. -/
theorem tracks_keep {s t : State} (h : L (tableOf s)) (ctc : t.ctc = s.ctc)
    (tracks : ∀ k : TrackNo, t.td[k].owner = s.td[k].owner ∧ t.td[k].windowCount = s.td[k].windowCount) :
    L (tableOf t) := by
  rwa [tableOf_tracks ctc tracks]

theorem keepsTable_foldl {α : Type} {f : State → α → State} (hf : ∀ s a, L (tableOf s) → L (tableOf (f s a)))
    (l : List α) : KeepsTable L fun s => l.foldl f s := by
  induction l with
  | nil => exact fun _ h => h
  | cons a rest ih => exact fun s h => ih _ (hf s a h)

include law

/-! ### Firing a point (R117 to R120) -/

/-- R120: an entry with its window closed is spent out of LIVE. -/
theorem spend_keeps (o : Occasion) (i : EntryNo) {s : State} (h : L (tableOf s)) (live : s.ctc.entries[i].state = .live)
    (closed : s.ctc.entries[i].windowOpen = false) : L (tableOf (spend o i s)) := by
  rw [tableOf_spend]
  exact law.held h (.inr live) closed

theorem closeWindow_keeps (o : Occasion) (i : EntryNo) {s : State} (h : L (tableOf s))
    (isOpen : s.ctc.entries[i].windowOpen = true) : L (tableOf (closeWindow o i s)) := by
  rw [tableOf_closeWindow]
  exact law.closed h isOpen

/-- R120, R123: the entry whose window closes is LIVE, and is spent behind the close. -/
theorem spend_closeWindow_keeps (o : Occasion) (i : EntryNo) {s : State} (h : L (tableOf s))
    (isOpen : s.ctc.entries[i].windowOpen = true) : L (tableOf (spend o i (closeWindow o i s))) := by
  have live : s.ctc.entries[i].state = .live := (law.window h isOpen).1
  refine spend_keeps law o i (closeWindow_keeps law o i h isOpen) ?_ ?_
  · rw [closeWindow_entry, if_pos rfl]
    exact live
  · rw [closeWindow_entry, if_pos rfl]

theorem firePointStart_keeps (o : Occasion) (i : EntryNo) {s : State} (h : L (tableOf s))
    (live : s.ctc.entries[i].state = .live) (action : s.ctc.entries[i].image.action ≠ .window) :
    L (tableOf (firePointStart o i s)) := by
  have closed : s.ctc.entries[i].windowOpen = false :=
    Bool.eq_false_iff.2 fun isOpen => action (law.window h isOpen).2
  have acted : (postEntry .fire o i (startAction s.ctc.entries[i].image s)).ctc.entries[i] = s.ctc.entries[i] := by
    rw [postEntry_ctc, startAction_ctc]
  have counted : tableOf ((postEntry .fire o i (startAction s.ctc.entries[i].image s)).modEntry i (Entry.countStart o))
      = tableOf s := by
    rw [tableOf_modEntry_of_facts rfl, tableOf_postEntry, tableOf_startAction]
  unfold firePointStart
  simp only
  split
  · split
    · refine spend_keeps law o i (counted.symm ▸ h) ?_ ?_
      · rw [State.modEntry_ctc_entries, vmod_self, acted]
        exact live
      · rw [State.modEntry_ctc_entries, vmod_self, acted]
        exact closed
    · rwa [counted]
  · rwa [tableOf_refuseStart]

theorem fireWindowStart_keeps (o : Occasion) (i : EntryNo) {s : State} (h : L (tableOf s))
    (live : s.ctc.entries[i].state = .live) (action : s.ctc.entries[i].image.action = .window) :
    L (tableOf (fireWindowStart o i s)) := by
  unfold fireWindowStart
  simp only
  split
  · exact h
  · next closed =>
      split
      · rw [tableOf_modEntry_of_facts rfl, tableOf_postEntry,
          tableOf_onTrack_count _ Track.windowUp (· + 1) _ fun _ => ⟨rfl, rfl⟩, tableOf_modEntry]
        exact law.opened h live action (Bool.eq_false_iff.2 closed)
      · rwa [tableOf_refuseStart]

theorem fireWindowEnd_keeps (o : Occasion) (i : EntryNo) : KeepsTable L (fireWindowEnd o i) := by
  intro s h
  unfold fireWindowEnd
  split
  · next isOpen =>
      split
      · exact spend_closeWindow_keeps law o i h isOpen
      · exact closeWindow_keeps law o i h isOpen
  · exact h

theorem fire_keeps (o : Occasion) (i : EntryNo) (pt : Point) : KeepsTable L (fire o i pt) := by
  intro s h
  have marked : L (tableOf (markTaken i pt s)) := h
  unfold fire
  simp only
  split
  · next live =>
      have point (action : s.ctc.entries[i].image.action ≠ .window) : L (tableOf (firePointStart o i (markTaken i pt s))) :=
        firePointStart_keeps law o i marked live action
      split
      · next action => exact fireWindowStart_keeps law o i marked live action
      · exact fireWindowEnd_keeps law o i _ marked
      · next action => exact point fun window => absurd (action.symm.trans window) (by decide)
      · next action => exact point fun window => absurd (action.symm.trans window) (by decide)
      · next action => exact point fun window => absurd (action.symm.trans window) (by decide)
      · next action => exact point fun window => absurd (action.symm.trans window) (by decide)
      · exact marked
      · exact marked
      · exact marked
      · exact marked
  · exact marked

theorem forceClose_keeps (spends : Bool) (i : EntryNo) : KeepsTable L (forceClose spends i) := by
  intro s h
  by_cases isOpen : s.ctc.entries[i].windowOpen = true
  · rw [forceClose_of_open isOpen]
    split
    · exact spend_closeWindow_keeps law _ i h isOpen
    · exact closeWindow_keeps law _ i h isOpen
  · rwa [forceClose_of_closed isOpen]

theorem activateArming_keeps : KeepsTable L activateArming := fun s h => tableOf_activateArming s ▸ law.activated h

/-! ### Enumeration (R110, R111) -/

theorem enumeratePoint_keeps (b stop : Nat) (period : Option Nat) (i : EntryNo) (pt : Point) :
    KeepsTable L (enumeratePoint b stop period i pt) := by
  intro s h
  unfold enumeratePoint
  split
  · exact h
  · split
    · split
      · exact fire_keeps law _ i pt s h
      · split
        · exact h
        · rwa [tableOf_addTicket]
    · exact h

theorem enumerate_keeps (b stop : Nat) : KeepsTable L (enumerate b stop) := by
  intro s h
  refine keepsTable_foldl (fun t i ht => ?_) allEntries s h
  unfold enumerateEntry
  split
  · exact enumeratePoint_keeps law _ _ _ i _ _ (enumeratePoint_keeps law _ _ _ i _ t ht)
  · exact ht

/-! ### A step at the scheduler (R105 to R110) -/

theorem flushTickets_keeps (angle fuel : Nat) : KeepsTable L (flushTickets angle fuel) := by
  induction fuel with
  | zero => exact fun _ h => h
  | succ fuel ih =>
      intro s h
      unfold flushTickets
      split
      · exact h
      · exact ih _ (fire_keeps law _ _ _ _ h)

theorem fireDeferred_keeps (angle : Nat) (cycle : Option Cycle) (fuel : Nat) :
    KeepsTable L (fireDeferred angle cycle fuel) := by
  induction fuel with
  | zero => exact fun _ h => h
  | succ fuel ih =>
      intro s h
      unfold fireDeferred
      split
      · exact h
      · exact ih _ (fire_keeps law _ _ _ _ h)

theorem flushDeferred_keeps (angle : Nat) : KeepsTable L (flushDeferred angle) := fun s h =>
  fireDeferred_keeps law angle _ _ s h

theorem stepEnumeration_keeps (rep : StepReport) : KeepsTable L (stepEnumeration rep) := by
  intro s h
  unfold stepEnumeration
  split
  · exact enumerate_keeps law _ _ s h
  · exact h

/-! ### The loss teardown, HOLDOVER and FREERUN_ON (R125, R127, R128) -/

theorem forceCloseAll_keeps : KeepsTable L forceCloseAll :=
  keepsTable_foldl (fun s i => forceClose_keeps law true i s) allEntries

theorem holdoverDiscard_keeps : KeepsTable L holdoverDiscard := by
  intro s h
  unfold holdoverDiscard
  simp only
  rw [foldl_removePoints Entry.pausing]
  refine keepsTable_foldl (fun t i ht => ?_) allEntries (withoutPoints _ s) h
  split
  · exact forceClose_keeps law true i t ht
  · exact ht

theorem firePassed_keeps (b fuel : Nat) : KeepsTable L (firePassed b fuel) := by
  induction fuel with
  | zero => exact fun _ h => h
  | succ fuel ih =>
      intro s h
      unfold firePassed
      split
      · exact h
      · exact ih _ (fire_keeps law _ _ _ _ h)

theorem freerunRetime_keeps : KeepsTable L freerunRetime := by
  intro s h
  have passed : L (tableOf (firePassed s.ag.base s.fs.tickets.length s)) := firePassed_keeps law _ _ s h
  unfold freerunRetime
  refine enumerate_keeps law _ _ (retimeTickets s.ag.base s.toothEnd s.cc.active.freeRunPeriod _) ?_
  rwa [tableOf_retimeTickets]

end Law

end Sys2Proof.Proofs
end

section
/-! PROOFS. What the reference path does to the table (R2 to R13, R35 to R76, R105, R125, R179): EQ, PT, AG and LS leave it, so
only FS's part of a step, of a departure and of HOLDOVER moves it. -/

namespace Sys2Proof.Proofs

open Sys2Proof Sys2Proof.Machine Sys2Proof.Safety

/-! ### Operations that leave the table -/

@[simp] theorem tableOf_moveLock (l : LockState) (s : State) : tableOf (moveLock l s) = tableOf s := by
  rw [moveLock_eq]
  rfl

@[simp] theorem tableOf_fall (l : LockState) (s : State) : tableOf (fall l s) = tableOf s := by
  rw [fall_eq]
  rfl

@[simp] theorem tableOf_setStandstill (t : Timer) (s : State) : tableOf (setStandstill t s) = tableOf s := rfl

@[simp] theorem tableOf_goOnToStopped (s : State) : tableOf (goOnToStopped s) = tableOf s := by
  unfold goOnToStopped
  split
  · exact tableOf_fall _ s
  · rfl

@[simp] theorem tableOf_startStandstill (s : State) : tableOf (startStandstill s) = tableOf s := by
  unfold startStandstill
  split <;> rfl

@[simp] theorem tableOf_noteSynth (rep : StepReport) (s : State) : tableOf (noteSynth rep s) = tableOf s := by
  unfold noteSynth
  split <;> rfl

@[simp] theorem tableOf_countHoldover (rep : StepReport) (s : State) : tableOf (countHoldover rep s) = tableOf s := by
  unfold countHoldover
  split <;> rfl

@[simp] theorem tableOf_judgeStep (rep : StepReport) (s : State) : tableOf (judgeStep rep s) = tableOf s := by
  unfold judgeStep
  split <;> rfl

@[simp] theorem tableOf_countSettle (s : State) : tableOf (countSettle s) = tableOf s := by
  unfold countSettle
  split
  · rfl
  · simp only
    split <;> rfl

@[simp] theorem tableOf_enterLocked (n : Nat) (s : State) : tableOf (enterLocked n s) = tableOf s :=
  tableOf_moveLock _ _

@[simp] theorem tableOf_handOverNoise (rep : StepReport) (s : State) : tableOf (handOverNoise rep s) = tableOf s := by
  rw [handOverNoise_eq]
  rfl

@[simp] theorem tableOf_realEdgeNotice (s : State) : tableOf (realEdgeNotice s) = tableOf s := by
  unfold realEdgeNotice
  simp only
  split
  · exact tableOf_fall _ _
  · rfl

@[simp] theorem tableOf_indexArrival (s : State) : tableOf (indexArrival s) = tableOf s := by
  rw [indexArrival_eq]
  split
  · rfl
  · split <;> rfl

@[simp] theorem tableOf_trackEdge (s : State) : tableOf (trackEdge s) = tableOf s := by
  rw [trackEdge_frame]
  rfl

@[simp] theorem tableOf_setLine (line : LineId) (f : FilterLine → FilterLine) (s : State) :
    tableOf (setLine line f s) = tableOf s := by
  rw [setLine_frame]
  rfl

@[simp] theorem tableOf_settleLine (line : LineId) (s : State) : tableOf (settleLine line s) = tableOf s :=
  tableOf_setLine line _ s

@[simp] theorem tableOf_reevaluateGate (n : GateNo) (s : State) : tableOf (reevaluateGate n s) = tableOf s := by
  unfold reevaluateGate
  split
  · rfl
  · rw [gateChanged_eq]
    simp only
    split <;> rfl

@[simp] theorem tableOf_reevaluateDepth (old : RefConfig) (s : State) : tableOf (reevaluateDepth old s) = tableOf s := by
  unfold reevaluateDepth
  split <;> rfl

@[simp] theorem tableOf_tellHolder (s : State) : tableOf (tellHolder s) = tableOf s := by
  unfold tellHolder
  split <;> rfl

/-! ### Operations that hand on to FS, for any application of a commit that keeps the law -/

section Law

variable {L : Table → Prop} (law : Table.Law L)

include law

section Application

variable {ap : State → State} (keeps : KeepsTable L ap)

include keeps

theorem teardown_keeps : KeepsTable L (teardown ap) := by
  intro s h
  refine keeps _ (activateArming_keeps law _ ?_)
  rw [tableOf_applyOnLoss]
  exact forceCloseAll_keeps law _ h

theorem departFrom_keeps (before : State) : KeepsTable L (departFrom ap before) := by
  intro s h
  unfold departFrom
  split
  · exact teardown_keeps law keeps s h
  · exact h

theorem enterSearch_keeps : KeepsTable L (enterSearch ap) := by
  intro s h
  unfold enterSearch
  rw [tableOf_goOnToStopped]
  refine departFrom_keeps law keeps s _ ?_
  rwa [tableOf_startStandstill, tableOf_fall]

theorem enterAcquire_keeps : KeepsTable L (enterAcquire ap) := by
  intro s h
  unfold enterAcquire
  rw [tableOf_goOnToStopped]
  refine departFrom_keeps law keeps s _ ?_
  rw [tableOf_moveLock]
  exact h

theorem restart_keeps : KeepsTable L (restart ap) := by
  intro s h
  have fallen : L (tableOf (fall .stopped s)) := (tableOf_fall _ s).symm ▸ h
  exact departFrom_keeps law keeps s _ fallen

theorem standstillExpires_keeps : KeepsTable L (standstillExpires ap) := by
  intro s h
  have expired : L (tableOf (setStandstill .expired s)) := h
  unfold standstillExpires
  simp only
  split
  · rwa [tableOf_fall]
  · rwa [tableOf_fall]
  · split
    · exact enterSearch_keeps law keeps _ expired
    · exact expired
  · split
    · exact enterSearch_keeps law keeps _ expired
    · exact expired
  · exact expired
  · exact expired

omit keeps in
theorem enterHoldover_keeps : KeepsTable L enterHoldover := by
  intro s h
  refine holdoverDiscard_keeps law _ ?_
  rw [tableOf_moveLock]
  exact h

theorem stepInAcquire_keeps (rep : StepReport) : KeepsTable L (stepInAcquire ap rep) := by
  intro s h
  have judged : L (tableOf (judgeStep rep (noteSynth rep s))) := by simpa using h
  unfold stepInAcquire
  simp only
  split
  · exact enterSearch_keeps law keeps _ judged
  · split
    · rwa [tableOf_enterLocked]
    · exact judged

theorem stepInLocked_keeps (rep : StepReport) : KeepsTable L (stepInLocked ap rep) := by
  intro s h
  have judged : L (tableOf (judgeStep rep (noteSynth rep s))) := by simpa using h
  unfold stepInLocked
  simp only
  split
  · exact enterAcquire_keeps law keeps _ judged
  · split
    · exact enterHoldover_keeps law _ judged
    · split
      · rwa [tableOf_countSettle]
      · exact judged

theorem stepInHoldover_keeps (rep : StepReport) : KeepsTable L (stepInHoldover ap rep) := by
  intro s h
  have judged : L (tableOf (judgeStep rep (countHoldover rep (noteSynth rep s)))) := by simpa using h
  unfold stepInHoldover
  simp only
  split
  · exact enterSearch_keeps law keeps _ judged
  · split
    · exact enterAcquire_keeps law keeps _ judged
    · split
      · rwa [tableOf_enterLocked]
      · exact judged

theorem supervise_keeps (rep : StepReport) : KeepsTable L (supervise ap rep) := by
  intro s h
  unfold supervise
  split
  · exact h
  · split
    · exact enterAcquire_keeps law keeps s h
    · exact h
  · exact stepInAcquire_keeps law keeps rep s h
  · exact stepInLocked_keeps law keeps rep s h
  · exact stepInHoldover_keeps law keeps rep s h
  · exact h

/-! ### A step (R35, R105) -/

theorem stepActivation_keeps (rep : StepReport) : KeepsTable L (stepActivation ap rep) := by
  intro s h
  unfold stepActivation
  split
  · exact keeps _ (activateArming_keeps law s h)
  · exact h

theorem schedulerStep_keeps (rep : StepReport) : KeepsTable L (schedulerStep ap rep) := by
  intro s h
  refine stepEnumeration_keeps law rep _ (stepActivation_keeps law keeps rep _ ?_)
  rw [tableOf_clearTaken]
  exact flushDeferred_keeps law _ _ (flushTickets_keeps law _ _ s h)

theorem handStep_keeps (rep : StepReport) : KeepsTable L (handStep ap rep) := by
  intro s h
  refine schedulerStep_keeps law keeps rep _ (supervise_keeps law keeps rep _ ?_)
  rwa [tableOf_handOverNoise]

theorem realStep_keeps : KeepsTable L (realStep ap) := fun _ h => handStep_keeps law keeps _ _ h

theorem alignStep_keeps : KeepsTable L (alignStep ap) := fun _ h => handStep_keeps law keeps _ _ h

theorem synthStep_keeps : KeepsTable L (synthStep ap) := fun _ h => handStep_keeps law keeps _ _ h

theorem freeRunStep_keeps : KeepsTable L (freeRunStep ap) := fun _ h => handStep_keeps law keeps _ _ h

/-! ### Edges (R4 to R13, R38) -/

theorem generatorEdge_keeps : KeepsTable L (generatorEdge ap) := by
  intro s h
  have noticed : L (tableOf { realEdgeNotice s with ag := { (realEdgeNotice s).ag with synthSinceReal := false } }) :=
    (tableOf_realEdgeNotice s).symm ▸ h
  have moved : L (tableOf (if inLateWindow s then
      lateAcceptance { realEdgeNotice s with ag := { (realEdgeNotice s).ag with synthSinceReal := false } }
      else realStep ap { realEdgeNotice s with ag := { (realEdgeNotice s).ag with synthSinceReal := false } })) := by
    split
    · exact noticed
    · exact realStep_keeps law keeps _ noticed
  unfold generatorEdge
  simp only
  split
  · exact noticed
  · split
    · exact alignStep_keeps law keeps _ noticed
    · exact noticed
  · exact moved
  · exact moved
  · exact moved
  · exact noticed

theorem toothEdge_keeps : KeepsTable L (toothEdge ap) := by
  intro s h
  unfold toothEdge
  split
  · exact h
  · have tracked : L (tableOf (trackEdge s)) := (tableOf_trackEdge s).symm ▸ h
    exact generatorEdge_keeps law keeps _ tracked

theorem edgeArrives_keeps (line : LineId) : KeepsTable L (edgeArrives ap line) := by
  intro s h
  unfold edgeArrives
  split
  · split
    · exact toothEdge_keeps law keeps s h
    · exact h
  · split
    · rwa [tableOf_indexArrival]
    · exact h
  · exact h

theorem filteredTransition_keeps (line : LineId) : KeepsTable L (filteredTransition ap line) := by
  intro s h
  have settled (l : LineId) : L (tableOf (settleLine l s)) := (tableOf_settleLine l s).symm ▸ h
  unfold filteredTransition
  split
  · rw [tableOf_reevaluateGate]
    exact settled _
  · exact edgeArrives_keeps law keeps _ _ (settled _)
  · exact edgeArrives_keeps law keeps _ _ (settled _)

end Application

/-! ### Applying a record (R3, R13, R179) -/

omit law in
theorem keepsTable_id : KeepsTable L id := fun _ h => h

theorem classAEffects_keeps : KeepsTable L classAEffects := by
  intro s h
  have fallen (u : State) (hu : L (tableOf u)) : L (tableOf (setStandstill (.running 0) (fall .search u))) := by
    rwa [tableOf_setStandstill, tableOf_fall]
  unfold classAEffects classALock
  simp only
  split
  · exact h
  · exact fallen _ h
  · exact departFrom_keeps law keepsTable_id _ _ (fallen _ h)
  · exact departFrom_keeps law keepsTable_id _ _ (fallen _ h)
  · exact departFrom_keeps law keepsTable_id _ _ (fallen _ h)
  · exact h

theorem judgeStandstillLimit_keeps : KeepsTable L judgeStandstillLimit := by
  intro s h
  unfold judgeStandstillLimit
  simp only
  split
  · exact standstillExpires_keeps law keepsTable_id _ h
  · exact h

theorem requalify_keeps (old : RefConfig) : KeepsTable L (requalify old) := by
  intro s h
  unfold requalify
  refine keepsTable_foldl (fun u n hu => ?_) _ _ ?_
  · rwa [tableOf_reevaluateGate]
  · refine keepsTable_foldl (fun u line hu => ?_) _ _ h
    unfold expireAtApplication
    split
    · exact edgeArrives_keeps law keepsTable_id line _ ((tableOf_settleLine line u).symm ▸ hu)
    · exact hu

theorem carryOutChange_keeps (old new : RefConfig) : KeepsTable L (carryOutChange old new) := by
  intro s h
  have classA : L (tableOf (if classAChanged old new then classAEffects s else s)) := by
    split
    · exact classAEffects_keeps law s h
    · exact h
  have depths (t : State) (ht : L (tableOf t)) : L (tableOf
      (if old.acquireDepth ≠ new.acquireDepth ∨ old.lockedDepth ≠ new.lockedDepth then reevaluateDepth old t else t)) := by
    split
    · rwa [tableOf_reevaluateDepth]
    · exact ht
  unfold carryOutChange
  simp only
  refine requalify_keeps law old _ ?_
  split
  · exact judgeStandstillLimit_keeps law _ (depths _ classA)
  · exact depths _ classA

theorem applyRecord_keeps (new : RefConfig) : KeepsTable L (applyRecord new) := by
  intro s h
  unfold applyRecord
  simp only
  rw [tableOf_tellHolder]
  split
  · exact h
  · exact carryOutChange_keeps law _ _ _ h

theorem applyPending_keeps : KeepsTable L applyPending := by
  intro s h
  unfold applyPending
  split
  · exact h
  · exact applyRecord_keeps law _ s h

/-! ### FREERUN_ON and the raw levels (R2, R50, R70) -/

theorem startFreeRun_keeps : KeepsTable L startFreeRun := by
  intro s h
  have moved (ls : LockSupervisor) : L (tableOf (moveLock .freerun { s with ls := ls })) :=
    (tableOf_moveLock _ { s with ls := ls }).symm ▸ h
  unfold startFreeRun
  simp only
  split
  · exact freerunRetime_keeps law _ (moved _)
  · exact handStep_keeps law (applyPending_keeps law) _ _ (moved _)

theorem rawChange_keeps (line : LineId) (level : Bool) : KeepsTable L (rawChange line level) := by
  intro s h
  unfold rawChange
  split
  · exact h
  · split
    · split
      · rwa [tableOf_setLine]
      · refine filteredTransition_keeps law (applyPending_keeps law) line _ ?_
        rwa [tableOf_setLine]
    · rwa [tableOf_setLine]

end Law

end Sys2Proof.Proofs
end

section
/-! PROOFS. The checks of ARM_ENTRY (R89), and what the withdrawal of an entry leaves of it (R93). -/

namespace Sys2Proof.Proofs

open Sys2Proof Sys2Proof.Machine Sys2Proof.Safety

/-! ### The validation of an entry to be armed (R89) -/

theorem armFailure_of_outOfRange {s : State} {e : Entry} (h : armingOutOfRange e) : armFailure s e = some .range := by
  unfold armFailure
  split
  · rfl
  · next kept =>
      rcases h with spent | ⟨note, named⟩ | ⟨set | clear | pulse, unnamed⟩ | ⟨pulse, widthless⟩ | ⟨window, points⟩
      · exact absurd spent kept
      · obtain ⟨k, named⟩ := Option.ne_none_iff_exists'.1 named
        simp only [note, named]
      · simp only [set, unnamed]
      · simp only [clear, unnamed]
      · simp only [pulse, unnamed]
      · cases track : e.image.track <;> simp only [pulse, widthless, if_true]
      · simp only [window, if_pos points]

/-- R89: an entry that passes the RANGE checks fails by its track's owner alone. -/
theorem armFailure_of_inRange {s : State} {e : Entry} (h : ¬armingOutOfRange e) :
    armFailure s e = e.image.track.bind (armFailure.trackCheck s e) := by
  simp only [armingOutOfRange, not_or, not_and, not_not] at h
  obtain ⟨kept, note, named, width, points⟩ := h
  unfold armFailure
  rw [if_neg kept]
  cases action : e.image.action with
  | note => simp only [note action, Option.bind_none]
  | set =>
      obtain ⟨k, track⟩ := Option.ne_none_iff_exists'.1 (named (.inl action))
      simp only [track, Option.bind_some]
  | clear =>
      obtain ⟨k, track⟩ := Option.ne_none_iff_exists'.1 (named (.inr (.inl action)))
      simp only [track, Option.bind_some]
  | pulse =>
      obtain ⟨k, track⟩ := Option.ne_none_iff_exists'.1 (named (.inr (.inr action)))
      simp only [track, if_neg (width action), Option.bind_some]
  | window =>
      simp only [if_neg (not_or.2 (points action))]
      cases e.image.track <;> rfl

theorem armFailure_of_owned {s : State} {e : Entry} (h : ¬armingOutOfRange e) (owned : namedTrackOwned s e) :
    armFailure s e = none := by
  rw [armFailure_of_inRange h]
  cases named : e.image.track with
  | none => rfl
  | some k => exact if_pos (owned k named)

theorem armFailure_of_not_owned {s : State} {e : Entry} (h : ¬armingOutOfRange e) (other : ¬namedTrackOwned s e) :
    armFailure s e = some .denied := by
  simp only [namedTrackOwned, not_forall] at other
  obtain ⟨k, named, other⟩ := other
  rw [armFailure_of_inRange h, named]
  exact if_neg other

/-- R89: an entry that passes the validation names a track of its owner, if it names one. -/
theorem owned_of_armFailure_none {s : State} {e : Entry} (h : armFailure s e = none) : namedTrackOwned s e := by
  by_contra other
  by_cases range : armingOutOfRange e
  · exact absurd ((armFailure_of_outOfRange range).symm.trans h) (by simp)
  · exact absurd ((armFailure_of_not_owned range other).symm.trans h) (by simp)

/-! ### An entry taken out of service (R93) -/

theorem withdrawEntry_of_open {i : EntryNo} {s : State} (isOpen : s.ctc.entries[i].windowOpen = true) :
    withdrawEntry i s = closeWindow (forcedOccasion s) i (removePoints i s) := by
  have stillOpen : (removePoints i s).ctc.entries[i].windowOpen = true := isOpen
  rw [withdrawEntry, forceClose_of_open stillOpen, Bool.and_false, if_neg Bool.false_ne_true]
  rfl

theorem withdrawEntry_of_closed {i : EntryNo} {s : State} (closed : ¬s.ctc.entries[i].windowOpen = true) :
    withdrawEntry i s = removePoints i s := forceClose_of_closed closed

/-- The entry keeps all but its window. -/
theorem withdrawEntry_entry_self (i : EntryNo) (s : State) :
    (withdrawEntry i s).ctc.entries[i] = { s.ctc.entries[i] with windowOpen := false } := by
  by_cases isOpen : s.ctc.entries[i].windowOpen = true
  · rw [withdrawEntry_of_open isOpen, closeWindow_entry, if_pos rfl]
    rfl
  · rw [withdrawEntry_of_closed isOpen, removePoints_ctc, ← Bool.eq_false_iff.2 isOpen]

/-- The table after the window of entry i is closed, if it is open. -/
def Table.withdrawn (T : Table) (i : EntryNo) : Table := if (T.entry i).windowOpen = true then T.closed i else T

theorem tableOf_withdrawEntry (i : EntryNo) (s : State) : tableOf (withdrawEntry i s) = (tableOf s).withdrawn i := by
  by_cases isOpen : s.ctc.entries[i].windowOpen = true
  · rw [withdrawEntry_of_open isOpen, tableOf_closeWindow, tableOf_removePoints]
    exact (if_pos isOpen).symm
  · rw [withdrawEntry_of_closed isOpen, tableOf_removePoints]
    exact (if_neg isOpen).symm

namespace Table

variable {L : Table → Prop} {T : Table} {i : EntryNo}

theorem Law.withdrawn (law : Law L) (h : L T) : L (T.withdrawn i) := by
  unfold Table.withdrawn
  split
  · next isOpen => exact law.closed h isOpen
  · exact h

theorem withdrawn_with_owned (T : Table) (i : EntryNo) (owned : Vector Nat 4) :
    ({ T with owned := owned } : Table).withdrawn i = { T.withdrawn i with owned := owned } := by
  unfold Table.withdrawn
  split <;> rfl

theorem withdrawn_entry (T : Table) (i : EntryNo) : (T.withdrawn i).entry i = (T.entry i).setOpen false := by
  unfold Table.withdrawn
  split
  · exact T.setEntry_entry_self i _
  · next closed => rw [EntryFacts.setOpen, ← Bool.eq_false_iff.2 closed]

end Table

end Sys2Proof.Proofs
end

section
/-! PROOFS. What the requests do to the table (R85 to R97, R133 to R137, R193), and the laws of the table at every step. -/

namespace Sys2Proof.Proofs

open Sys2Proof Sys2Proof.Machine Sys2Proof.Safety

/-- The request leaves the law of the table, whatever it answers. -/
def ActKeepsTable (L : Table → Prop) (act : State → State × Reply) : Prop :=
  ∀ s, L (tableOf s) → L (tableOf (act s).1)

section Law

variable {L : Table → Prop}

/-! ### Checks that requests share (R86, R133, R173) -/

theorem onOwnEntry_keeps {p : Port} {index : Byte} {s : State} {f : EntryNo → State × Reply} (h : L (tableOf s))
    (hf : ∀ i : EntryNo, s.ctc.entries[i].owner = some p → L (tableOf (f i).1)) :
    L (tableOf (onOwnEntry p index s f).1) := by
  unfold onOwnEntry
  split
  · exact h
  · split
    · next owner => exact hf _ owner
    · exact h

theorem onTrackNo_keeps {track : Byte} {s : State} {f : TrackNo → State × Reply} (h : L (tableOf s))
    (hf : ∀ k, L (tableOf (f k).1)) : L (tableOf (onTrackNo track s f).1) := by
  unfold onTrackNo
  split
  · exact h
  · exact hf _

theorem onOwnTrack_keeps {p : Port} {track : Byte} {s : State} {f : TrackNo → State × Reply} (h : L (tableOf s))
    (hf : ∀ k : TrackNo, s.td[k].owner = some p → L (tableOf (f k).1)) :
    L (tableOf (onOwnTrack p track s f).1) := by
  refine onTrackNo_keeps h fun k => ?_
  split
  · next owner => exact hf k owner
  · exact h

theorem holderOnly_keeps {p : Port} {s : State} {r : State × Reply} (h : L (tableOf s)) (hr : L (tableOf r.1)) :
    L (tableOf (holderOnly p s r).1) := by
  unfold holderOnly
  split
  · exact hr
  · exact h

/-! ### What the requests find -/

theorem tableOf_modOwned (p : Port) (f : Nat → Nat) (s : State) :
    tableOf (modOwned p f s) = { tableOf s with owned := vmod (tableOf s).owned p f } := rfl

theorem lowestFree_free {s : State} {i : EntryNo} (h : lowestFree s = some i) : s.ctc.entries[i].state = .free := by
  have found := List.find?_some (p := fun j : EntryNo => s.ctc.entries[j].state == .free) h
  exact beq_iff_eq.1 found

theorem not_trackInUse {p : Port} {k : TrackNo} {s : State} (h : ¬trackInUse p k s = true) (i : EntryNo)
    (armed : ((tableOf s).entry i).armed) (owner : ((tableOf s).entry i).owner = some p) :
    ((tableOf s).entry i).track ≠ some k := by
  intro named
  refine h (List.any_eq_true.2 ⟨i, List.mem_finRange i, ?_⟩)
  have armed' : s.ctc.entries[i].armed = true := by
    rcases armed with state | state
    · simp [-Fin.getElem_fin, Entry.armed, show s.ctc.entries[i].state = .arming from state]
    · simp [-Fin.getElem_fin, Entry.armed, show s.ctc.entries[i].state = .live from state]
  rw [armed', show s.ctc.entries[i].owner = some p from owner, show s.ctc.entries[i].image.track = some k from named]
  simp

/-- R95: the table after entry i is freed, but for the owned count. -/
theorem tableOf_freeOne (i : EntryNo) {s : State}
    (live : s.ctc.entries[i].windowOpen = true → s.ctc.entries[i].state = .live) :
    tableOf (freeOne i s) = ((tableOf s).withdrawn i).setEntry i .free := by
  unfold freeOne
  rw [tableOf_modEntry]
  split
  · rw [tableOf_withdrawEntry]
    rfl
  · next unarmed =>
      have closed : ¬((tableOf s).entry i).windowOpen = true := fun isOpen => unarmed (.inr (live isOpen))
      rw [Table.withdrawn, if_neg closed]
      rfl

/-- A change of one track's owner that keeps its window count. -/
theorem modTrack_owner_keeps {k : TrackNo} {f : Track → Track} {s : State} (owner : Option Port)
    (change : ∀ t, (f t).owner = owner ∧ (f t).windowCount = t.windowCount)
    (h : L { tableOf s with trackOwner := Function.update (tableOf s).trackOwner k owner }) :
    L (tableOf (s.modTrack k f)) := by
  have moved : tableOf (s.modTrack k f)
      = { tableOf s with trackOwner := Function.update (tableOf s).trackOwner k owner } := by
    simp only [tableOf, State.modTrack_ctc, State.modTrack_td, vmod_at, Table.mk.injEq, true_and]
    refine ⟨funext fun j => ?_, funext fun j => ?_⟩
    · by_cases same : k = j
      · subst same
        rw [if_pos rfl, Function.update_self, (change _).1]
      · rw [if_neg same, Function.update_of_ne (Ne.symm same)]
    · split
      · exact (change _).2
      · rfl
  rwa [moved]

/-- A change of one track that the laws do not read keeps them. -/
theorem modTrack_keeps {k : TrackNo} {f : Track → Track} {s : State} (h : L (tableOf s))
    (same : ∀ t, (f t).owner = t.owner ∧ (f t).windowCount = t.windowCount) : L (tableOf (s.modTrack k f)) := by
  rwa [tableOf_modTrack s same]

variable (law : Table.Law L)

include law

/-! ### Requests on the reference and the configuration (R70, R72, R73, R178) -/

theorem actFreerunOn_keeps (p : Port) : ActKeepsTable L (actFreerunOn p) := fun s h =>
  holderOnly_keeps h (startFreeRun_keeps law s h)

theorem actFreerunOff_keeps (p : Port) : ActKeepsTable L (actFreerunOff p) := by
  refine fun s h => holderOnly_keeps h ?_
  split
  · exact enterSearch_keeps law (applyPending_keeps law) s h
  · exact h

theorem actRestartReference_keeps (p : Port) : ActKeepsTable L (actRestartReference p) := fun s h =>
  holderOnly_keeps h (restart_keeps law (applyPending_keeps law) s h)

theorem actCommit_keeps (p : Port) : ActKeepsTable L (actCommit p) := by
  refine fun s h => holderOnly_keeps h ?_
  split
  · exact h
  · exact h
  · split
    · exact h
    · exact applyRecord_keeps law _ s h

/-! ### Requests on entries (R85 to R97) -/

theorem actAllocEntry_keeps (p : Port) : ActKeepsTable L (actAllocEntry p) := by
  intro s h
  have allocated (i : EntryNo) :
      tableOf (modOwned p (· + 1) (s.modEntry i fun _ => { Entry.default with state := .held, owner := some p }))
        = (tableOf s).allocated p i := by
    rw [tableOf_modOwned, tableOf_modEntry]
    rfl
  unfold actAllocEntry
  split
  · exact h
  · split
    · exact h
    · next i lowest =>
        rw [allocated]
        exact law.allocated p h (lowestFree_free lowest)

theorem actWriteEntry_keeps (p : Port) (index : Byte) (image : RawImage) : ActKeepsTable L (actWriteEntry p index image) := by
  refine fun s h => onOwnEntry_keeps h fun i _ => ?_
  split
  · next held =>
      split
      · exact h
      · rw [tableOf_modEntry]
        exact law.written _ _ h held
  · exact h

theorem actArmEntry_keeps (p : Port) (index : Byte) : ActKeepsTable L (actArmEntry p index) := by
  refine fun s h => onOwnEntry_keeps h fun i _ => ?_
  split
  · next held =>
      split
      · exact h
      · next passes =>
          have state : armedState s = .arming ∨ armedState s = .live := by
            unfold armedState
            split
            · exact .inl rfl
            · exact .inr rfl
          rw [tableOf_modEntry]
          exact law.armed h held state (owned_of_armFailure_none passes)
  · exact h

theorem actHoldEntry_keeps (p : Port) (index : Byte) : ActKeepsTable L (actHoldEntry p index) := by
  refine fun s h => onOwnEntry_keeps h fun i _ => ?_
  split
  · next armed =>
      have entry : (tableOf (withdrawEntry i s)).entry i = ((tableOf s).entry i).setOpen false := by
        rw [tableOf_withdrawEntry, Table.withdrawn_entry]
      have withdrawn : L (tableOf (withdrawEntry i s)) := tableOf_withdrawEntry i s ▸ law.withdrawn h
      rw [tableOf_modEntry]
      exact law.held withdrawn (entry ▸ armed) (entry ▸ rfl)
  · exact h

/-- R95: a port's entry is given up, and the port's owned count goes down with it. -/
theorem freed_withdrawn {T : Table} {p : Port} {i : EntryNo} (h : L T) (owner : (T.entry i).owner = some p) :
    L ((T.withdrawn i).freed p i) := by
  have entry := T.withdrawn_entry i
  exact law.freed (law.withdrawn h) (entry ▸ owner) (entry ▸ rfl)

theorem actFreeEntry_keeps (p : Port) (index : Byte) : ActKeepsTable L (actFreeEntry p index) := by
  refine fun s h => onOwnEntry_keeps h fun i owner => ?_
  rw [tableOf_modOwned, tableOf_freeOne i fun isOpen => (law.window h isOpen).1]
  exact freed_withdrawn law h owner

theorem actModifyFlags_keeps (p : Port) (index setMask clearMask : Byte) :
    ActKeepsTable L (actModifyFlags p index setMask clearMask) := by
  refine fun s h => onOwnEntry_keeps h fun i _ => ?_
  split
  · exact h
  · have flagged (f : EntryFlags) :
        L (tableOf (s.modEntry i fun e => { e with image := { e.image with flags := f } })) := by
      rwa [tableOf_modEntry_of_facts rfl]
    unfold pauseNow
    simp only
    split
    · exact forceClose_keeps law true i _ (flagged _)
    · exact flagged _

/-! ### Requests on tracks (R133 to R137) -/

theorem actAssignTrack_keeps (p : Port) (track : Byte) : ActKeepsTable L (actAssignTrack p track) := by
  refine fun s h => onTrackNo_keeps h fun k => ?_
  split
  · next unowned =>
      exact modTrack_owner_keeps (some p) (fun _ => ⟨rfl, rfl⟩) (law.assigned p h unowned)
  · split <;> exact h

theorem actReleaseTrack_keeps (p : Port) (track : Byte) : ActKeepsTable L (actReleaseTrack p track) := by
  refine fun s h => onOwnTrack_keeps h fun k owner => ?_
  split
  · exact h
  · next unused =>
      refine modTrack_owner_keeps none (fun _ => ⟨rfl, rfl⟩) (law.released (p := p) _ h fun j => ?_)
      by_cases same : j = k
      · subst same
        exact .inr ⟨owner, not_trackInUse unused⟩
      · exact .inl (Function.update_of_ne same _ _)

omit law in
theorem actSetTrack_keeps (p : Port) (track polarity safe onLoss : Byte) :
    ActKeepsTable L (actSetTrack p track polarity safe onLoss) := by
  refine fun s h => onOwnTrack_keeps h fun k _ => ?_
  split
  · exact modTrack_keeps h fun _ => ⟨rfl, rfl⟩
  · exact h
  · exact h
  · exact h

omit law in
theorem actDriveTrack_keeps (p : Port) (track value : Byte) : ActKeepsTable L (actDriveTrack p track value) := by
  refine fun s h => onOwnTrack_keeps h fun k _ => ?_
  split
  · exact h
  · exact modTrack_keeps h fun _ => ⟨rfl, rfl⟩

end Law

end Sys2Proof.Proofs
end

section
/-! PROOFS. DETACH on the table (R193), the requests and events that leave it, and every step. -/

namespace Sys2Proof.Proofs

open Sys2Proof Sys2Proof.Machine Sys2Proof.Safety

/-! ### Requests that leave the table -/

/-- The request can move the table. -/
def movesTable : Instr → Bool
  | .detach _ => true
  | .freerunOn _ => true
  | .freerunOff _ => true
  | .restartReference _ => true
  | .allocEntry _ => true
  | .writeEntry _ _ _ => true
  | .armEntry _ _ => true
  | .holdEntry _ _ => true
  | .freeEntry _ _ => true
  | .modifyFlags _ _ _ _ => true
  | .assignTrack _ _ => true
  | .releaseTrack _ _ => true
  | .setTrack _ _ _ _ _ => true
  | .driveTrack _ _ _ => true
  | .commit _ => true
  | _ => false

@[simp] theorem tableOf_grantClaim (p : Port) (s : State) : tableOf (grantClaim p s) = tableOf s := rfl

@[simp] theorem tableOf_giveUpClaim (p : Port) (s : State) : tableOf (giveUpClaim p s) = tableOf s := by
  have noted : tableOf (noteDiscarded p s) = tableOf s := by
    unfold noteDiscarded
    split
    · rfl
    · split <;> rfl
  refine Eq.trans ?_ noted
  unfold giveUpClaim passClaim
  split <;> rfl

/-- A request on event delivery, on the claim and the staged copy, or one that only reads leaves the table. -/
theorem tableOf_requestAct {i : Instr} {act : State → State × Reply} (e : requestAct i = some act)
    (still : movesTable i = false) (s : State) : tableOf (act s).1 = tableOf s := by
  cases i <;> simp only [requestAct, movesTable, Option.some.injEq, reduceCtorEq] at e still <;> subst e
  case releaseClaim p =>
    unfold actReleaseClaim
    split
    · exact tableOf_giveUpClaim p s
    · rfl
  case clearCounters | discard =>
    simp only [actClearCounters, actDiscard, holderOnly]
    split <;> rfl
  case readEntry | readTrack | popEvent | readSlot | withdraw =>
    simp only [actReadEntry, actReadTrack, onTrackNo, actPopEvent, actReadSlot, actWithdraw]
    split <;> rfl
  case readLatest | setQuota =>
    simp only [actReadLatest, actSetQuota, holderOnly]
    repeat' split
    all_goals rfl
  case writeSlot | setAttnMask | requestClaim | stageParam | readParam =>
    simp only [actWriteSlot, actSetAttnMask, actRequestClaim, actStageParam, actReadParam, holderOnly]
    repeat' split
    all_goals rfl
  all_goals rfl

section Law

variable {L : Table → Prop} (law : Table.Law L)

/-! ### DETACH (R102, R147, R193) -/

/-- The law holds of the table of t with some owned count in place of that of port p: while p's entries are freed in turn,
the count is left for the end (R102). -/
def KeepsButOwned (L : Table → Prop) (p : Port) (t : State) : Prop :=
  ∃ owned : Vector Nat 4, L { tableOf t with owned := owned }
    ∧ (vmod owned p fun _ => 0) = vmod t.ctc.owned p fun _ => 0

theorem freeOne_owned (i : EntryNo) (s : State) : (freeOne i s).ctc.owned = s.ctc.owned := by
  unfold freeOne
  split
  · exact (withdrawEntry_frame i s).owned
  · rfl

theorem freeOne_owner (i : EntryNo) (s : State) (j : EntryNo) :
    (freeOne i s).ctc.entries[j].owner = if i = j then none else s.ctc.entries[j].owner := by
  unfold freeOne
  rw [State.modEntry_ctc_entries, vmod_at]
  split
  · rfl
  · split
    · exact ((withdrawEntry_frame i s).entries j).1
    · rfl

/-- Entry i freed, if it is an entry of port p. -/
def freeIfOwned (p : Port) (t : State) (i : EntryNo) : State := if t.ctc.entries[i].owner = some p then freeOne i t else t

theorem detachEntries_eq (p : Port) (s : State) :
    detachEntries p s = modOwned p (fun _ => 0) (allEntries.foldl (freeIfOwned p) s) := rfl

include law

theorem freeOne_keepsButOwned {p : Port} {i : EntryNo} {t : State} (h : KeepsButOwned L p t)
    (owner : t.ctc.entries[i].owner = some p) : KeepsButOwned L p (freeOne i t) := by
  obtain ⟨owned, kept, agree⟩ := h
  refine ⟨vmod owned p (· - 1), ?_, ?_⟩
  · have freed := freed_withdrawn law kept owner
    rw [Table.withdrawn_with_owned] at freed
    rw [tableOf_freeOne i fun isOpen => (law.window kept isOpen).1]
    exact freed
  · rw [vmod_vmod, freeOne_owned]
    exact agree

/-- R102: every entry of p is freed, in the order of a list that names them all. -/
theorem foldl_freeIfOwned {p : Port} (l : List EntryNo) {t : State} (h : KeepsButOwned L p t)
    (listed : ∀ i : EntryNo, t.ctc.entries[i].owner = some p → i ∈ l) :
    KeepsButOwned L p (l.foldl (freeIfOwned p) t)
      ∧ ∀ i : EntryNo, (l.foldl (freeIfOwned p) t).ctc.entries[i].owner ≠ some p := by
  induction l generalizing t with
  | nil => exact ⟨h, fun i owner => List.not_mem_nil (listed i owner)⟩
  | cons i rest ih =>
      refine ih ?_ fun j owner => ?_
      · unfold freeIfOwned
        split
        · next own => exact freeOne_keepsButOwned law h own
        · exact h
      · unfold freeIfOwned at owner
        split at owner
        · rw [freeOne_owner] at owner
          split at owner
          · cases owner
          · next other => exact List.mem_of_ne_of_mem (Ne.symm other) (listed j owner)
        · next foreign =>
            have other : j ≠ i := fun same => foreign (same ▸ owner)
            exact List.mem_of_ne_of_mem other (listed j owner)

/-- R102: at the end p owns nothing, and its owned count becomes 0. -/
theorem keeps_of_keepsButOwned {p : Port} {t : State} (h : KeepsButOwned L p t)
    (gone : ∀ i : EntryNo, t.ctc.entries[i].owner ≠ some p) : L (tableOf (modOwned p (fun _ => 0) t)) := by
  obtain ⟨owned, kept, agree⟩ := h
  have settled := law.settled kept gone
  simp only [agree] at settled
  exact settled

theorem detachEntries_keeps (p : Port) {s : State} (h : L (tableOf s)) :
    L (tableOf (detachEntries p s)) ∧ ∀ i : EntryNo, (detachEntries p s).ctc.entries[i].owner ≠ some p := by
  obtain ⟨kept, gone⟩ := foldl_freeIfOwned law (p := p) allEntries (t := s) ⟨s.ctc.owned, h, rfl⟩
    fun i _ => List.mem_finRange i
  simp only [detachEntries_eq, modOwned_ctc_entries]
  exact ⟨keeps_of_keepsButOwned law kept gone, gone⟩

theorem releaseTracksOf_keeps (p : Port) {s : State} (h : L (tableOf s))
    (gone : ∀ i : EntryNo, s.ctc.entries[i].owner ≠ some p) : L (tableOf (releaseTracksOf p s)) := by
  have moved : tableOf (releaseTracksOf p s)
      = { tableOf s with trackOwner := fun k => if s.td[k].owner = some p then none else s.td[k].owner } := by
    simp only [tableOf, releaseTracksOf, vall_at, Table.mk.injEq, true_and]
    refine ⟨funext fun k => ?_, funext fun k => ?_⟩
    · split <;> rfl
    · split <;> rfl
  rw [moved]
  refine law.released (p := p) _ h fun k => ?_
  split
  · next owner => exact .inr ⟨owner, fun i _ owned => absurd owned (gone i)⟩
  · exact .inl rfl

theorem actDetach_keeps (p : Port) : ActKeepsTable L (actDetach p) := by
  intro s h
  obtain ⟨freed, gone⟩ := detachEntries_keeps law p h
  have released : L (tableOf (releaseTracksOf p (detachEntries p s))) := releaseTracksOf_keeps law p freed gone
  have claim (t : State) : tableOf (detachClaim p t) = tableOf t := by
    refine Eq.trans (b := tableOf (if t.cc.holder = some p then giveUpClaim p t else t)) rfl ?_
    split
    · exact tableOf_giveUpClaim p t
    · rfl
  have rest (t : State) : tableOf (((detachMarks p t).modEvents p fun _ => EventPort.default).modPort p
      fun q => { q with frameErrors := 0 }) = tableOf t := rfl
  unfold actDetach
  simp only
  rwa [rest, claim]

/-! ### Every command -/

theorem requestAct_keeps {i : Instr} {act : State → State × Reply} (e : requestAct i = some act) : ActKeepsTable L act := by
  cases still : movesTable i with
  | false => exact fun s h => (tableOf_requestAct e still s).symm ▸ h
  | true =>
      cases i <;> simp only [requestAct, movesTable, Option.some.injEq, reduceCtorEq] at e still <;> subst e
      case detach p => exact actDetach_keeps law p
      case freerunOn p => exact actFreerunOn_keeps law p
      case freerunOff p => exact actFreerunOff_keeps law p
      case restartReference p => exact actRestartReference_keeps law p
      case allocEntry p => exact actAllocEntry_keeps law p
      case writeEntry p index image => exact actWriteEntry_keeps law p index image
      case armEntry p index => exact actArmEntry_keeps law p index
      case holdEntry p index => exact actHoldEntry_keeps law p index
      case freeEntry p index => exact actFreeEntry_keeps law p index
      case modifyFlags p index setMask clearMask => exact actModifyFlags_keeps law p index setMask clearMask
      case assignTrack p track => exact actAssignTrack_keeps law p track
      case releaseTrack p track => exact actReleaseTrack_keeps law p track
      case setTrack p track polarity safe onLoss => exact actSetTrack_keeps p track polarity safe onLoss
      case driveTrack p track value => exact actDriveTrack_keeps p track value
      case commit p => exact actCommit_keeps law p

theorem takeRequest_keeps {i : Instr} {act : State → State × Reply} (e : requestAct i = some act) (p : Port) :
    KeepsTable L (takeRequest p i act) := by
  intro s h
  unfold takeRequest
  split
  · exact h
  · split
    · exact requestAct_keeps law e s h
    · exact h

/-- A clock edge changes a port, and the request that it completes does the rest (R186, R187). -/
theorem clockEdge_keeps (p : Port) (rising sdi : Bool) : KeepsTable L (clockEdge p rising sdi) := by
  intro s h
  have rises : L (tableOf (risingEdge p sdi s)) := by
    unfold risingEdge
    split
    · exact h
    · exact h
    · exact h
    · exact h
    · split
      · exact h
      · next act e =>
          obtain ⟨i, -, hi⟩ := Option.bind_eq_some_iff.1 e
          exact requestAct_keeps law hi s h
  unfold clockEdge
  split
  · exact h
  · split
    · exact h
    · split
      · exact rises
      · exact h

omit law in
theorem tableOf_selectRises (p : Port) (s : State) : tableOf (selectRises p s) = tableOf s := by
  unfold selectRises
  split <;> rfl

theorem fireFirstTicket_keeps : KeepsTable L fireFirstTicket := by
  intro s h
  unfold fireFirstTicket
  split
  · exact h
  · exact fire_keeps law _ _ _ _ h

/-- An event of the inputs, of the clock or of a port's lines answers a next state that keeps the law. -/
theorem exec_event_keeps {i : Instr} (e : requestAct i = none) {s : State} (h : L (tableOf s)) :
    ∃ t, exec i s = .next t ∧ L (tableOf t) := by
  have reset : L (tableOf State.reset) := law.reset
  cases i <;> simp only [requestAct, reduceCtorEq] at e <;> refine ⟨_, rfl, ?_⟩
  case deviceReset => exact reset
  case serialClockEdge p rising sdi => exact clockEdge_keeps law p rising sdi s h
  case selectFall => exact h
  all_goals split
  case rawLevelChange.isTrue => exact reset
  case rawLevelChange.isFalse line level _ => exact rawChange_keeps law line level s h
  case runExpiry.isTrue line _ => exact filteredTransition_keeps law (applyPending_keeps law) line s h
  case standstillExpiry.isTrue => exact standstillExpires_keeps law (applyPending_keeps law) s h
  case missDeadlineExpiry.isTrue => exact synthStep_keeps law (applyPending_keeps law) s h
  case freeStep.isTrue => exact freeRunStep_keeps law (applyPending_keeps law) s h
  case ticketDue.isTrue => exact fireFirstTicket_keeps law s h
  case pulseEnd.isTrue => exact modTrack_keeps h fun _ => ⟨rfl, rfl⟩
  case selectRise.isFalse p _ => rwa [tableOf_selectRises]
  all_goals exact h

theorem exec_keeps {i : Instr} {s t : State} (h : L (tableOf s)) (e : exec i s = .next t) : L (tableOf t) := by
  cases hi : requestAct i with
  | some act =>
      obtain ⟨p, taken⟩ := exec_of_requestAct hi s
      obtain rfl : takeRequest p i act s = t := Host.Outcome.next.inj (taken.symm.trans e)
      exact takeRequest_keeps law hi p s h
  | none =>
      obtain ⟨u, hu, kept⟩ := exec_event_keeps law hi h
      exact Host.Outcome.next.inj (hu.symm.trans e) ▸ kept

theorem tick_keeps : KeepsTable L tick := by
  intro s h
  unfold tick
  split
  · exact law.reset
  · refine tracks_keep h rfl fun k => ?_
    rw [vall_at]
    exact ⟨rfl, rfl⟩

/-- A law of the table that survives the moves is kept by every step. -/
theorem step_keeps {s t : State} (h : L (tableOf s)) (e : step s = .next t) : L (tableOf t) := by
  unfold step at e
  split at e
  · unfold ownStep at e
    split at e
    · exact Host.Outcome.next.inj e ▸ tick_keeps law s h
    · exact exec_keeps law h e
    · exact exec_keeps law (s := { s with freeCount := s.freeCount + 1 }) h e
  · next rest _ => exact exec_keeps law (s := { s with pending := rest }) h e

end Law

/-- Settles O56: the laws of the table survive every move, and every step is a sequence of moves. -/
theorem everyStepKeepsOwnershipAndWindows : Obligations.EveryStepKeepsOwnershipAndWindows := by
  refine ⟨fun s t windows e => ?_, fun s t ownership tracks windows e => ?_⟩
  · exact (windowsSound_iff t).2 (step_keeps windows_law ((windowsSound_iff s).1 windows) e)
  · have sound : TableSound (tableOf t) := step_keeps tableSound_law ⟨ownership, tracks, windows⟩ e
    exact ⟨(camTableSound_iff t).2 sound.ownership, (armedTracksOwned_iff t).2 sound.tracks⟩

end Sys2Proof.Proofs
end

section
/-! PROOFS. Device reset on the table, the lists and the tracks (R103, R130, R148), and the laws right after it. -/

namespace Sys2Proof.Proofs

open Sys2Proof Sys2Proof.Machine Sys2Proof.Safety

/-- State t holds the reset values of CTC, FS and TD, and the stamp counter is 0. -/
structure TableReset (t : State) : Prop where
  stamp : t.stamp = 0
  ctc : t.ctc = CamTable.reset
  fs : t.fs = FiringScheduler.reset
  td : t.td = Vector.replicate 8 Track.default

namespace TableReset

variable {t : State} (h : TableReset t)

include h

theorem entry (i : EntryNo) :
    t.ctc.entries[i] =
      ⟨.free, none, ⟨.note, 0, none, none, none, 0, .always, ⟨false, false, false⟩, 0⟩, false, false, none⟩ := by
  simp [h.ctc, CamTable.reset, Entry.default, EntryImage.default]

theorem port (p : Port) : t.ctc.owned[p] = 0 ∧ t.ctc.quota[p] = 16 := by
  simp [h.ctc, CamTable.reset]

theorem track (k : TrackNo) : t.td[k] = ⟨none, false, 0, none, false, false, false⟩ ∧ t.trackLine k = false := by
  simp [h.td, State.trackLine, Track.line, Track.logical, Track.default]

theorem taken (i : EntryNo) : t.fs.taken[i] = ⟨false, false⟩ := by
  simp [h.fs, FiringScheduler.reset]

end TableReset

/-- Settles O4: the state held in reset and the state after its end hold the reset values alike. -/
theorem deviceResetEmptiesTableListsAndTracks : Obligations.DeviceResetEmptiesTableListsAndTracks := by
  intro s
  refine ⟨holdInReset s, endReset { s with pending := [] }, rfl, step_of_held s, rfl, rfl, rfl, fun t ht => ?_⟩
  have h : TableReset t := by
    rcases List.mem_pair.1 ht with rfl | rfl
    · exact ⟨rfl, rfl, rfl, rfl⟩
    · exact ⟨rfl, rfl, rfl, rfl⟩
  exact ⟨h.stamp, h.entry, h.port, h.track, congrArg (·.tickets) h.fs, congrArg (·.deferred) h.fs,
    congrArg (·.deferredCycle) h.fs, congrArg (·.cycleSeen) h.fs, congrArg (·.overflows) h.fs, h.taken⟩

/-! ### The laws right after device reset -/

/-- R126: nothing waits to fire, since both lists are empty, no commit is pending and every entry is FREE. -/
theorem quietOutsideFiring_reset : QuietOutsideFiring State.reset := by
  refine fun _ => ⟨rfl, rfl, rfl, fun i => ?_⟩
  have free : factsOf State.reset.ctc.entries[i] = .free := tableOf_reset_entry i
  have state : State.reset.ctc.entries[i].state = .free := congrArg EntryFacts.state free
  exact ⟨by simp [-Fin.getElem_fin, state], congrArg EntryFacts.windowOpen free⟩

theorem claimSound_reset : ClaimSound State.reset := by
  simp [ClaimSound, State.reset, ClaimController.reset]

theorem portsSound_reset : PortsSound State.reset := by
  intro p
  simp [State.reset, PortInterface.reset]

theorem marksSound_reset : MarksSound State.reset := by
  intro p
  simp [marked, State.reset, EdgeQualifier.reset, PeriodTracker.reset, LockSupervisor.reset, ClaimController.reset,
    EventPort.default, LatestRegister.empty]

theorem withinCapacity_reset : WithinCapacity State.reset := by
  refine ⟨fun p => ?_, ?_⟩
  · simp [State.reset, EventPort.default]
  · simp [State.reset, FiringScheduler.reset, EdgeQualifier.reset, PeriodTracker.reset, AngleGenerator.reset,
      LockSupervisor.reset]

/-- Settles O60, law by law. -/
theorem resetSatisfiesEveryLaw : Obligations.ResetSatisfiesEveryLaw := by
  have reference : ReferenceSound State.reset := (holdInReset_sound State.reset).congr rfl
  have table := tableSound_reset
  have high : HeldInReset State.reset := fun low => absurd low Bool.false_ne_true
  exact ⟨(camTableSound_iff _).2 table.ownership, (armedTracksOwned_iff _).2 table.tracks,
    (windowsSound_iff _).2 table.windows, quietOutsideFiring_reset, reference.angle, reference.lock,
    reference.configuration, reference.history, claimSound_reset, portsSound_reset, marksSound_reset,
    withinCapacity_reset, high⟩

end Sys2Proof.Proofs
end

section
/-! PROOFS. Requests on entries of others and holder-only requests of others (R86, R173). -/

namespace Sys2Proof.Proofs

open Sys2Proof Sys2Proof.Machine Sys2Proof.Safety

/-- A request that its block refuses changes nothing and answers the result alone (R191). -/
theorem answers_of_refusal {i : Instr} {p : Port} {request : List Byte} {s : State} {act : State → State × Reply}
    (r : Result) (he : encodeRequest i = some (p, request)) (hx : exec i s = .next (takeRequest p i act s))
    (refuses : act s = (s, Reply.bare r)) : Answers i p request [r.code] s s :=
  answers_of he hx (by rw [refuses]) (by rw [refuses]; rfl)

/-- R86: a request on one entry that the shared check refuses, whichever of the five it is. -/
theorem entryRequests_refused {p : Port} {x : Byte} {s : State} (y z : Byte) (r : RawImage) (result : Result)
    (refuses : ∀ f, onOwnEntry p x s f = (s, Reply.bare result)) :
    Answers (.writeEntry p x r) p ([0x21, x] ++ imageBytes r) [result.code] s s
      ∧ Answers (.armEntry p x) p [0x23, x] [result.code] s s ∧ Answers (.holdEntry p x) p [0x24, x] [result.code] s s
      ∧ Answers (.freeEntry p x) p [0x25, x] [result.code] s s
      ∧ Answers (.modifyFlags p x y z) p [0x26, x, y, z] [result.code] s s :=
  ⟨answers_of_refusal (act := actWriteEntry p x r) result rfl rfl (refuses _),
    answers_of_refusal (act := actArmEntry p x) result rfl rfl (refuses _),
    answers_of_refusal (act := actHoldEntry p x) result rfl rfl (refuses _),
    answers_of_refusal (act := actFreeEntry p x) result rfl rfl (refuses _),
    answers_of_refusal (act := actModifyFlags p x y z) result rfl rfl (refuses _)⟩

/-- Settles O44: the checks that these requests share come before all else. -/
theorem requestsOfOthersAreRefused : Obligations.RequestsOfOthersAreRefused := by
  refine fun p x y z v r s => ⟨fun high => ?_, fun i index other => ?_, fun other => ?_⟩
  · exact entryRequests_refused y z r .range fun f => onOwnEntry_range f high
  · subst index
    exact entryRequests_refused y z r .denied fun f => onOwnEntry_other f other
  · have denied (a : State × Reply) : holderOnly p s a = (s, Reply.bare .denied) := holderOnly_other a other
    exact ⟨answers_of_refusal (act := actFreerunOn p) .denied rfl rfl (denied _),
      answers_of_refusal (act := actFreerunOff p) .denied rfl rfl (denied _),
      answers_of_refusal (act := actRestartReference p) .denied rfl rfl (denied _),
      answers_of_refusal (act := actClearCounters p) .denied rfl rfl (denied _),
      answers_of_refusal (act := actStageParam p x v) .denied rfl rfl (denied _),
      answers_of_refusal (act := actCommit p) .denied rfl rfl (denied _),
      answers_of_refusal (act := actDiscard p) .denied rfl rfl (denied _),
      answers_of_refusal (act := actSetQuota p x y) .denied rfl rfl (denied _)⟩

end Sys2Proof.Proofs
end

section
/-! PROOFS. ALLOC_ENTRY, ARM_ENTRY, HOLD_ENTRY and FREE_ENTRY (R85, R89, R90, R93, R95). -/

namespace Sys2Proof.Proofs

open Sys2Proof Sys2Proof.Machine Sys2Proof.Safety

/-! ### ALLOC_ENTRY (R85) -/

theorem lowestFree_none {s : State} (taken : ∀ i : EntryNo, s.ctc.entries[i].state ≠ .free) : lowestFree s = none :=
  List.find?_eq_none.2 fun i _ free => taken i (beq_iff_eq.1 free)

theorem lowestFree_some {s : State} {i : EntryNo} (free : s.ctc.entries[i].state = .free)
    (below : ∀ j : EntryNo, j < i → s.ctc.entries[j].state ≠ .free) : lowestFree s = some i := by
  refine List.find?_eq_some_iff_getElem.2 ⟨beq_iff_eq.2 free, i.val, ?_, ?_, fun j hj => ?_⟩
  · exact (List.length_finRange (n := 64)).symm ▸ i.isLt
  · exact List.getElem_finRange _
  · have lower : (⟨j, hj.trans i.isLt⟩ : EntryNo) < i := hj
    simpa [allEntries] using below _ lower

theorem actAllocEntry_of_lowest {p : Port} {i : EntryNo} {s : State} (within : s.ctc.owned[p] < s.ctc.quota[p])
    (lowest : lowestFree s = some i) :
    actAllocEntry p s = (modOwned p (· + 1) (s.modEntry i fun _ => { Entry.default with state := .held, owner := some p }),
      ⟨.ok, [byteOf i.val]⟩) := by
  simp only [actAllocEntry, if_neg (Nat.not_le.2 within), lowest]

/-- Settles O39, by the quota and by the lowest FREE entry. -/
theorem allocEntryHandsOutTheLowestFreeEntry : Obligations.AllocEntryHandsOutTheLowestFreeEntry := by
  refine fun p s => ⟨fun spent => ?_, fun within taken => ?_, fun i within free below => ?_⟩
  · exact answers_of_refusal (act := actAllocEntry p) .quota rfl rfl (if_pos spent)
  · refine answers_of_refusal (act := actAllocEntry p) .full rfl rfl ?_
    simp only [actAllocEntry, if_neg (Nat.not_le.2 within), lowestFree_none taken]
  · have acts := actAllocEntry_of_lowest within (lowestFree_some free below)
    exact answers_of (act := actAllocEntry p) rfl rfl (by rw [acts]; rfl) (by rw [acts]; rfl)

/-! ### ARM_ENTRY (R89, R90) -/

theorem not_held_of_armed {e : Entry} (armed : e.state = .arming ∨ e.state = .live) : e.state ≠ .held := by
  rcases armed with state | state <;> simp [state]

theorem actArmEntry_of_failure {p : Port} {i : EntryNo} {r : Result} {s : State}
    (own : s.ctc.entries[i].owner = some p) (held : s.ctc.entries[i].state = .held)
    (fails : armFailure s s.ctc.entries[i] = some r) : actArmEntry p (octet i.val) s = (s, Reply.bare r) := by
  rw [actArmEntry, onOwnEntry_own _ own, if_pos held]
  simp only [fails]

theorem actArmEntry_of_pass {p : Port} {i : EntryNo} {s : State}
    (own : s.ctc.entries[i].owner = some p) (held : s.ctc.entries[i].state = .held)
    (passes : armFailure s s.ctc.entries[i] = none) :
    actArmEntry p (octet i.val) s =
      (s.modEntry i fun e => { e with state := armedState s }, ⟨.ok, [(armedState s).code]⟩) := by
  rw [actArmEntry, onOwnEntry_own _ own, if_pos held]
  simp only [passes]

/-- Settles O41: the state, then the first failure of the validation, then the firing set. -/
theorem armEntryValidatesAndArms : Obligations.ArmEntryValidatesAndArms := by
  refine fun p i s own => ⟨fun armed => ?_, fun held range => ?_, fun held range other => ?_, fun held range owned => ?_⟩
  · refine answers_of_refusal (act := actArmEntry p (octet i.val)) .state rfl rfl ?_
    rw [actArmEntry, onOwnEntry_own _ own, if_neg (not_held_of_armed armed)]
  · exact answers_of_refusal (act := actArmEntry p (octet i.val)) .range rfl rfl
      (actArmEntry_of_failure own held (armFailure_of_outOfRange range))
  · exact answers_of_refusal (act := actArmEntry p (octet i.val)) .denied rfl rfl
      (actArmEntry_of_failure own held (armFailure_of_not_owned range other))
  · have acts := actArmEntry_of_pass own held (armFailure_of_owned range owned)
    refine answers_of (act := actArmEntry p (octet i.val)) rfl rfl (by rw [acts]; rfl) ?_
    rw [acts]
    cases inside : s.inFiring <;> simp [armedState, inside, Reply.wire, Result.code, EntryState.code]

/-! ### HOLD_ENTRY and FREE_ENTRY (R93, R95) -/

/-- R121: the event that entry i posts is told by its image and its owner, which `e` shares. -/
theorem postEntry_eq_reported {kind : EventKind} {o : Occasion} {i : EntryNo} {e : Entry} {s : State}
    (image : s.ctc.entries[i].image = e.image) (owner : s.ctc.entries[i].owner = e.owner) :
    postEntry kind o i s = reported kind o i e s := by
  rw [postEntry, entryEvent, image, owner, reported]

/-- R119, R123: the close reports the entry as it was before its window closed. -/
theorem closeWindow_eq_reported (o : Occasion) (i : EntryNo) (s : State) :
    closeWindow o i s = reported .close o i s.ctc.entries[i]
      (onTrack s.ctc.entries[i].image.track Track.windowDown (s.modEntry i fun e => { e with windowOpen := false })) :=
  postEntry_eq_reported (by simp only [onTrack_ctc, State.modEntry_ctc_entries, vmod_self])
    (by simp only [onTrack_ctc, State.modEntry_ctc_entries, vmod_self])

theorem outOfService_of_open {i : EntryNo} {s : State} (isOpen : s.ctc.entries[i].windowOpen = true) :
    outOfService i s = closeWindow (forcedOccasion s) i (removePoints i s) := by
  rw [closeWindow_eq_reported, outOfService]
  simp only
  rw [if_pos isOpen]
  cases named : s.ctc.entries[i].image.track with
  | none => simp only [removePoints_ctc, named]; rfl
  | some k => simp only [removePoints_ctc, named]; rfl

theorem outOfService_of_closed {i : EntryNo} {s : State} (closed : ¬s.ctc.entries[i].windowOpen = true) :
    outOfService i s = removePoints i s := if_neg closed

/-- R93, R123: what the statements ask of a withdrawal is what CTC does. -/
theorem withdrawEntry_eq_outOfService (i : EntryNo) (s : State) : withdrawEntry i s = outOfService i s := by
  by_cases isOpen : s.ctc.entries[i].windowOpen = true
  · rw [withdrawEntry_of_open isOpen, outOfService_of_open isOpen]
  · rw [withdrawEntry_of_closed isOpen, outOfService_of_closed isOpen]

theorem freeOne_of_armed {i : EntryNo} {s : State}
    (armed : s.ctc.entries[i].state = .arming ∨ s.ctc.entries[i].state = .live) :
    freeOne i s = (outOfService i s).modEntry i fun _ => Entry.default := by
  rw [freeOne, if_pos armed, withdrawEntry_eq_outOfService]

theorem freeOne_of_held {i : EntryNo} {s : State} (held : s.ctc.entries[i].state = .held) :
    freeOne i s = s.modEntry i fun _ => Entry.default := by
  rw [freeOne, if_neg (by simp [-Fin.getElem_fin, held])]

theorem freeEntry_answers {p : Port} {i : EntryNo} {s : State} (own : s.ctc.entries[i].owner = some p) :
    Answers (.freeEntry p (octet i.val)) p [0x25, octet i.val] [0x00] s (modOwned p (· - 1) (freeOne i s)) := by
  have acts : actFreeEntry p (octet i.val) s = (modOwned p (· - 1) (freeOne i s), Reply.bare .ok) :=
    onOwnEntry_own _ own
  exact answers_of (act := actFreeEntry p (octet i.val)) rfl rfl (by rw [acts]) (by rw [acts]; rfl)

/-- Settles O42, by the state of the entry. -/
theorem holdAndFreeTakeOutOfService : Obligations.HoldAndFreeTakeOutOfService := by
  refine fun p i s own => ⟨outOfService i s, rfl, fun held => ⟨?_, ?_⟩, fun armed => ⟨?_, ?_⟩⟩
  · refine answers_of_refusal (act := actHoldEntry p (octet i.val)) .state rfl rfl ?_
    rw [actHoldEntry, onOwnEntry_own _ own, if_neg (by simp [-Fin.getElem_fin, held])]
  · have answers := freeEntry_answers own
    rw [freeOne_of_held held] at answers
    exact answers
  · have acts : actHoldEntry p (octet i.val) s
        = ((outOfService i s).modEntry i fun e => { e with state := .held }, Reply.bare .ok) := by
      rw [actHoldEntry, onOwnEntry_own _ own, if_pos armed, withdrawEntry_eq_outOfService]
    exact answers_of (act := actHoldEntry p (octet i.val)) rfl rfl (by rw [acts]; rfl) (by rw [acts]; rfl)
  · have answers := freeEntry_answers own
    rw [freeOne_of_armed armed] at answers
    exact answers

end Sys2Proof.Proofs
end

section
/-! PROOFS. WRITE_ENTRY and the fields of its image (R87, R198). -/

namespace Sys2Proof.Proofs

open Sys2Proof Sys2Proof.Machine Sys2Proof.Safety

/-! ### Each field of the image: the bytes in range are the codes of its values (R198) -/

theorem byte_eq_octet {b : Byte} {n : Nat} (h : b.toNat = n) : b = octet n := by
  rw [← h, octet, BitVec.ofNat_toNat, BitVec.setWidth_eq]

theorem actionOf_code (a : Action) : actionOf a.code = some a := by
  cases a <;> rfl

theorem exists_action_code {b : Byte} (range : b.toNat ≤ 4) : ∃ a : Action, b = a.code := by
  interval_cases value : b.toNat
  · exact ⟨.note, byte_eq_octet value⟩
  · exact ⟨.set, byte_eq_octet value⟩
  · exact ⟨.clear, byte_eq_octet value⟩
  · exact ⟨.pulse, byte_eq_octet value⟩
  · exact ⟨.window, byte_eq_octet value⟩

theorem range_of_actionOf {b : Byte} {a : Action} (h : actionOf b = some a) : b.toNat ≤ 4 := by
  unfold actionOf at h
  split at h
  case h_6 => cases h
  all_goals omega

theorem startOf_of_range {w : BitVec 16} (range : w.toNat ≤ 3599) : startOf w = some w.toNat :=
  if_pos (Nat.lt_succ_of_le range)

theorem range_of_startOf {w : BitVec 16} {a : Nat} (h : startOf w = some a) : w.toNat ≤ 3599 := by
  unfold startOf at h
  split at h
  · omega
  · cases h

theorem word_eq_ffff_iff (w : BitVec 16) : w = 0xFFFF ↔ w.toNat = 0xFFFF := BitVec.toNat_inj.symm

theorem stopOf_of_range {w : BitVec 16} (range : w.toNat ≤ 3599 ∨ w.toNat = 0xFFFF) :
    stopOf w = some (if w = 0xFFFF then none else some w.toNat) := by
  unfold stopOf
  split
  · rfl
  · next given => exact if_pos (Nat.lt_succ_of_le (range.resolve_right fun h => given ((word_eq_ffff_iff w).2 h)))

theorem range_of_stopOf {w : BitVec 16} {a : Option Nat} (h : stopOf w = some a) :
    w.toNat ≤ 3599 ∨ w.toNat = 0xFFFF := by
  unfold stopOf at h
  split at h
  · next absent => exact .inr ((word_eq_ffff_iff w).1 absent)
  · split at h
    · exact .inl (by omega)
    · cases h

theorem imageTrackOf_octetOr (t : Option TrackNo) : imageTrackOf (octetOr t) = some t := by
  cases t with
  | none => rfl
  | some k =>
      have named : octet k.val ≠ 0xFF := fun h => by
        have value := congrArg BitVec.toNat h
        rw [octet_toNat _ (by omega)] at value
        exact absurd (show k.val = 255 from value) (by omega)
      exact (if_neg named).trans (congrArg (Option.map some) (trackOf_octet k))

theorem exists_octetOr {b : Byte} (range : b.toNat ≤ 7 ∨ b.toNat = 0xFF) : ∃ t : Option TrackNo, b = octetOr t := by
  rcases range with named | absent
  · exact ⟨some ⟨b.toNat, Nat.lt_succ_of_le named⟩, byte_eq_octet rfl⟩
  · exact ⟨none, byte_eq_octet absent⟩

theorem range_of_imageTrackOf {b : Byte} {t : Option TrackNo} (h : imageTrackOf b = some t) :
    b.toNat ≤ 7 ∨ b.toNat = 0xFF := by
  by_contra out
  simp only [not_or, not_le] at out
  obtain ⟨above, given⟩ := out
  have named : b ≠ 0xFF := fun h => given (congrArg BitVec.toNat h)
  rw [imageTrackOf, if_neg named, trackOf_range above] at h
  cases h

theorem gateOf_code (g : GateCond) : gateOf g.code = some g := by
  cases g with
  | always => rfl
  | active n => revert n; decide
  | inactive n => revert n; decide

theorem exists_gate_code {b : Byte}
    (range : b.toNat = 0 ∨ 0x10 ≤ b.toNat ∧ b.toNat ≤ 0x13 ∨ 0x20 ≤ b.toNat ∧ b.toNat ≤ 0x23) :
    ∃ g : GateCond, b = g.code := by
  rcases range with zero | ⟨low, high⟩ | ⟨low, high⟩
  · exact ⟨.always, byte_eq_octet zero⟩
  · exact ⟨.active ⟨b.toNat - 0x10, by omega⟩, byte_eq_octet (Nat.add_sub_of_le low).symm⟩
  · exact ⟨.inactive ⟨b.toNat - 0x20, by omega⟩, byte_eq_octet (Nat.add_sub_of_le low).symm⟩

theorem range_of_gateOf {b : Byte} {g : GateCond} (h : gateOf b = some g) :
    b.toNat = 0 ∨ 0x10 ≤ b.toNat ∧ b.toNat ≤ 0x13 ∨ 0x20 ≤ b.toNat ∧ b.toNat ≤ 0x23 := by
  have upper (v : BitVec 6) (field : b.extractLsb' 2 6 = v) : b.toNat / 4 % 64 = v.toNat := by
    rw [← field, BitVec.extractLsb'_toNat, Nat.shiftRight_eq_div_pow]
  unfold gateOf at h
  split at h
  · next always => exact .inl (congrArg BitVec.toNat always)
  · split at h
    · next active =>
        have field : b.toNat / 4 % 64 = 4 := upper _ active
        exact .inr (.inl (by omega))
    · split at h
      · next inactive =>
          have field : b.toNat / 4 % 64 = 8 := upper _ inactive
          exact .inr (.inr (by omega))
      · cases h

/-- The three flags of a byte, whatever its other bits are. -/
def flagsAt (b : Byte) : EntryFlags := ⟨b.getLsbD 0, b.getLsbD 1, b.getLsbD 2⟩

theorem flagsOf_of_range {b : Byte} (range : b.toNat < 8) : flagsOf b = some (flagsAt b) := if_pos range

theorem flagsOf_of_outOfRange {b : Byte} (range : 8 ≤ b.toNat) : flagsOf b = none := if_neg (Nat.not_lt.2 range)

theorem range_of_flagsOf {b : Byte} {f : EntryFlags} (h : flagsOf b = some f) : b.toNat < 8 := by
  by_contra above
  rw [flagsOf_of_outOfRange (Nat.not_lt.1 above)] at h
  cases h

/-! ### The whole image (R87) -/

/-- The image whose action, track and gate are these, and whose other fields are as the bytes say (R198). -/
def imageWith (r : RawImage) (action : Action) (track : Option TrackNo) (gate : GateCond) : EntryImage where
  action := action
  start := r.start.toNat
  stop := if r.stop = 0xFFFF then none else some r.stop.toNat
  track := track
  width := if r.width = 0 then none else some r.width.toNat
  tag := r.tag
  gate := gate
  flags := flagsAt r.flags
  count := r.count.toNat

theorem parseImage_of_inRange {r : RawImage} (range : imageInRange r) :
    ∃ (action : Action) (track : Option TrackNo) (gate : GateCond),
      r.action = action.code ∧ r.track = octetOr track ∧ r.gate = gate.code
        ∧ parseImage r = some (imageWith r action track gate) := by
  obtain ⟨hAction, hStart, hStop, hTrack, hGate, hFlags⟩ := range
  obtain ⟨action, isAction⟩ := exists_action_code hAction
  obtain ⟨track, isTrack⟩ := exists_octetOr hTrack
  obtain ⟨gate, isGate⟩ := exists_gate_code hGate
  refine ⟨action, track, gate, isAction, isTrack, isGate, ?_⟩
  rw [parseImage, isAction, isTrack, isGate, actionOf_code, imageTrackOf_octetOr, gateOf_code, startOf_of_range hStart,
    stopOf_of_range hStop, flagsOf_of_range (Nat.lt_succ_of_le hFlags)]
  rfl

theorem inRange_of_parseImage {r : RawImage} {im : EntryImage} (h : parseImage r = some im) : imageInRange r := by
  simp only [parseImage, Option.bind_eq_bind, Option.bind_eq_some_iff] at h
  obtain ⟨_, action, _, start, _, stop, _, track, _, gate, _, flags, -⟩ := h
  exact ⟨range_of_actionOf action, range_of_startOf start, range_of_stopOf stop, range_of_imageTrackOf track,
    range_of_gateOf gate, Nat.le_of_lt_succ (range_of_flagsOf flags)⟩

theorem parseImage_of_outOfRange {r : RawImage} (range : ¬imageInRange r) : parseImage r = none :=
  Option.eq_none_iff_forall_ne_some.2 fun _ h => range (inRange_of_parseImage h)

theorem actWriteEntry_of_outOfRange {p : Port} {i : EntryNo} {r : RawImage} {s : State}
    (own : s.ctc.entries[i].owner = some p) (held : s.ctc.entries[i].state = .held) (range : ¬imageInRange r) :
    actWriteEntry p (octet i.val) r s = (s, Reply.bare .range) := by
  rw [actWriteEntry, onOwnEntry_own _ own, if_pos held]
  simp only [parseImage_of_outOfRange range]

theorem actWriteEntry_of_parsed {p : Port} {i : EntryNo} {r : RawImage} {im : EntryImage} {s : State}
    (own : s.ctc.entries[i].owner = some p) (held : s.ctc.entries[i].state = .held) (parsed : parseImage r = some im) :
    actWriteEntry p (octet i.val) r s =
      (s.modEntry i fun e => { e with image := im, spent := false }, Reply.bare .ok) := by
  rw [actWriteEntry, onOwnEntry_own _ own, if_pos held]
  simp only [parsed]

/-- Settles O40: the state, then the range of the image, then every field. -/
theorem writeEntryTakesAWholeImage : Obligations.WriteEntryTakesAWholeImage := by
  refine fun p i r s own => ⟨fun armed => ?_, fun held range => ?_, fun held range => ?_⟩
  · refine answers_of_refusal (act := actWriteEntry p (octet i.val) r) .state rfl rfl ?_
    rw [actWriteEntry, onOwnEntry_own _ own, if_neg (not_held_of_armed armed)]
  · exact answers_of_refusal (act := actWriteEntry p (octet i.val) r) .range rfl rfl
      (actWriteEntry_of_outOfRange own held range)
  · obtain ⟨action, track, gate, isAction, isTrack, isGate, parsed⟩ := parseImage_of_inRange range
    have acts := actWriteEntry_of_parsed own held parsed
    have answers : Answers (.writeEntry p (octet i.val) r) p ([0x21, octet i.val] ++ imageBytes r) [0x00] s
        (s.modEntry i fun e => { e with image := imageWith r action track gate, spent := false }) :=
      answers_of (act := actWriteEntry p (octet i.val) r) rfl rfl (by rw [acts]) (by rw [acts]; rfl)
    exact ⟨action, track, gate, isAction, isTrack, isGate, answers⟩

end Sys2Proof.Proofs
end

section
/-! PROOFS. MODIFY_FLAGS: the flag masks, and PAUSE newly set in HOLDOVER (R96, R97, R120, R123). -/

namespace Sys2Proof.Proofs

open Sys2Proof Sys2Proof.Machine Sys2Proof.Safety

/-! ### The bits of a flags byte (R198) -/

theorem high_bits_of_lt {b : Byte} (low : b.toNat < 8) (j : Nat) : b.getLsbD (j + 3) = false :=
  have bound : 2 ^ 3 ≤ 2 ^ (j + 3) := Nat.pow_le_pow_right Nat.two_pos (Nat.le_add_left 3 j)
  Nat.testBit_eq_false_of_lt (low.trans_le bound)

/-- Bit 0 is QUIET, bit 1 REPORT_GATED, bit 2 PAUSE, and the code is below 8. -/
theorem code_low_bits (f : EntryFlags) :
    f.code.getLsbD 0 = f.quiet ∧ f.code.getLsbD 1 = f.reportGated ∧ f.code.getLsbD 2 = f.pause ∧ f.code.toNat < 8 := by
  obtain ⟨quiet, reportGated, pause⟩ := f
  revert quiet reportGated pause
  decide

/-- A byte whose bits are these flags, and no others, is their code. -/
theorem eq_code_of_bits {b : Byte} {f : EntryFlags} (quiet : b.getLsbD 0 = f.quiet)
    (reportGated : b.getLsbD 1 = f.reportGated) (pause : b.getLsbD 2 = f.pause)
    (high : ∀ j, b.getLsbD (j + 3) = false) : b = f.code := by
  obtain ⟨codeQuiet, codeReportGated, codePause, codeLow⟩ := code_low_bits f
  refine BitVec.eq_of_getLsbD_eq fun j _ => ?_
  match j with
  | 0 => exact quiet.trans codeQuiet.symm
  | 1 => exact reportGated.trans codeReportGated.symm
  | 2 => exact pause.trans codePause.symm
  | j + 3 => exact (high j).trans (high_bits_of_lt codeLow j).symm

theorem flagsAt_code {b : Byte} (range : b.toNat < 8) : (flagsAt b).code = b :=
  (eq_code_of_bits rfl rfl rfl (high_bits_of_lt range)).symm

/-- R96: the flags named in the set mask are set and those in the clear mask cleared. -/
theorem modify_code (f a b : EntryFlags) : (f.modify a b).code = (f.code ||| a.code) &&& ~~~b.code := by
  obtain ⟨fQuiet, fReportGated, fPause, fLow⟩ := code_low_bits f
  obtain ⟨aQuiet, aReportGated, aPause, aLow⟩ := code_low_bits a
  obtain ⟨bQuiet, bReportGated, bPause, -⟩ := code_low_bits b
  have bit (j : Nat) (h : j < 8) : ((f.code ||| a.code) &&& ~~~b.code).getLsbD j
      = ((f.code.getLsbD j || a.code.getLsbD j) && !b.code.getLsbD j) := by
    simp only [BitVec.getLsbD_and, BitVec.getLsbD_or, BitVec.getLsbD_not, h, decide_true, Bool.true_and]
  refine (eq_code_of_bits ?_ ?_ ?_ fun j => ?_).symm
  · rw [bit 0 (by decide), fQuiet, aQuiet, bQuiet, EntryFlags.modify]
  · rw [bit 1 (by decide), fReportGated, aReportGated, bReportGated, EntryFlags.modify]
  · rw [bit 2 (by decide), fPause, aPause, bPause, EntryFlags.modify]
  · rw [BitVec.getLsbD_and, BitVec.getLsbD_or, high_bits_of_lt fLow, high_bits_of_lt aLow, Bool.or_self, Bool.false_and]

/-- R96: two masks name no flag in common if their bytes have no bit in common. -/
theorem meet_eq_false_iff (a b : EntryFlags) : a.meet b = false ↔ a.code &&& b.code = 0 := by
  obtain ⟨aQuiet, aReportGated, aPause⟩ := a
  obtain ⟨bQuiet, bReportGated, bPause⟩ := b
  revert aQuiet aReportGated aPause bQuiet bReportGated bPause
  decide

theorem flagMasks_of_outOfRange {x y : Byte} (h : 8 ≤ x.toNat ∨ 8 ≤ y.toNat ∨ x &&& y ≠ 0) : flagMasks x y = none := by
  by_cases xHigh : 8 ≤ x.toNat
  · simp only [flagMasks, flagsOf_of_outOfRange xHigh]
  · have xLow := Nat.not_le.1 xHigh
    by_cases yHigh : 8 ≤ y.toNat
    · simp only [flagMasks, flagsOf_of_range xLow, flagsOf_of_outOfRange yHigh]
    · have yLow := Nat.not_le.1 yHigh
      have common : x &&& y ≠ 0 := (h.resolve_left xHigh).resolve_left yHigh
      have meets : (flagsAt x).meet (flagsAt y) = true := by
        rw [← Bool.not_eq_false, meet_eq_false_iff, flagsAt_code xLow, flagsAt_code yLow]
        exact common
      simp only [flagMasks, flagsOf_of_range xLow, flagsOf_of_range yLow, if_pos meets]

theorem flagMasks_of_range {x y : Byte} (xLow : x.toNat < 8) (yLow : y.toNat < 8) (apart : x &&& y = 0) :
    flagMasks x y = some (flagsAt x, flagsAt y) := by
  have meets : (flagsAt x).meet (flagsAt y) = false := by
    rw [meet_eq_false_iff, flagsAt_code xLow, flagsAt_code yLow, apart]
  simp only [flagMasks, flagsOf_of_range xLow, flagsOf_of_range yLow, meets, Bool.false_eq_true, if_false]

/-! ### An entry spent out of service (R120, R122) -/

theorem reported_modEntry (kind : EventKind) (o : Occasion) (i j : EntryNo) (e : Entry) (g : Entry → Entry) (s : State) :
    reported kind o i e (s.modEntry j g) = (reported kind o i e s).modEntry j g := by
  unfold reported
  split <;> rfl

@[simp] theorem reported_ctc (kind : EventKind) (o : Occasion) (i : EntryNo) (e : Entry) (s : State) :
    (reported kind o i e s).ctc = s.ctc := by
  unfold reported
  split <;> rfl

theorem removePoints_of_fs {i : EntryNo} {s t : State} (fs : s.fs = (removePoints i t).fs) : removePoints i s = s := by
  have again : (removePoints i s).fs = s.fs := by
    simp only [removePoints, fs, List.filter_filter, Bool.and_self]
  exact congrArg (fun lists => { s with fs := lists }) again

/-- The points of an entry out of service are gone already. -/
theorem removePoints_outOfService (i : EntryNo) (s : State) : removePoints i (outOfService i s) = outOfService i s := by
  by_cases isOpen : s.ctc.entries[i].windowOpen = true
  · rw [outOfService_of_open isOpen]
    exact removePoints_of_fs (closeWindow_fs _ i _)
  · rw [outOfService_of_closed isOpen]
    exact removePoints_of_fs rfl

theorem outOfService_ctc_of_open {i : EntryNo} {s : State} (isOpen : s.ctc.entries[i].windowOpen = true) :
    (outOfService i s).ctc = (s.modEntry i fun e => { e with windowOpen := false }).ctc := by
  rw [outOfService_of_open isOpen, closeWindow_eq_reported, reported_ctc, onTrack_ctc]
  rfl

/-- R120, R122: an entry spent as it goes out of service, told by what it was before. -/
theorem spend_outOfService {o : Occasion} {i : EntryNo} {s : State} (isOpen : s.ctc.entries[i].windowOpen = true)
    (spent : s.ctc.entries[i].spent = true) :
    spend o i (outOfService i s) =
      { reported .spent { o with forced := false } i s.ctc.entries[i] (outOfService i s) with
        ctc := (s.modEntry i fun e => { e with windowOpen := false, state := .held }).ctc } := by
  have entry : (outOfService i s).ctc.entries[i] = { s.ctc.entries[i] with windowOpen := false } := by
    rw [outOfService_ctc_of_open isOpen, State.modEntry_ctc_entries, vmod_self]
  have spentAlready : { s.ctc.entries[i] with windowOpen := false, state := .held, spent := true }
      = { s.ctc.entries[i] with windowOpen := false, state := EntryState.held } := by
    rw [← spent]
  have table : ((outOfService i s).modEntry i fun e => { e with state := .held, spent := true }).ctc
      = (s.modEntry i fun e => { e with windowOpen := false, state := .held }).ctc := by
    simp only [State.modEntry, outOfService_ctc_of_open isOpen, vmod_vmod]
    simp only [vmod_eq_set, spentAlready]
  rw [spend, removePoints_outOfService, postEntry_eq_reported (e := s.ctc.entries[i]), reported_modEntry]
  · rw [← table]
    simp only [State.modEntry, reported_ctc]
  · simp only [State.modEntry_ctc_entries, vmod_self, entry]
  · simp only [State.modEntry_ctc_entries, vmod_self, entry]

/-! ### PAUSE newly set in HOLDOVER (R97) -/

/-- R97: entry i is LIVE with PAUSE newly set, in HOLDOVER. -/
def PausesNow (i : EntryNo) (had : Bool) (s : State) : Prop :=
  s.ls.lock = .holdover ∧ s.ctc.entries[i].state = .live ∧ s.ctc.entries[i].image.flags.pause = true ∧ had = false

theorem pauseNow_condition_iff (i : EntryNo) (had : Bool) (s : State) :
    (s.ctc.entries[i].pausing && !had && s.ls.lock == .holdover) = true ↔ PausesNow i had s := by
  simp only [Entry.pausing, PausesNow, Bool.and_eq_true, beq_iff_eq, Bool.not_eq_true']
  tauto

theorem pauseNow_of_not {i : EntryNo} {had : Bool} {s : State} (other : ¬PausesNow i had s) : pauseNow i had s = s :=
  if_neg fun condition => other ((pauseNow_condition_iff i had s).1 condition)

/-- R97: the entry goes out of service, where the close of its window does not spend it. -/
theorem pauseNow_of_kept {i : EntryNo} {had : Bool} {s : State} (pauses : PausesNow i had s)
    (kept : s.ctc.entries[i].windowOpen = true → s.ctc.entries[i].spent = false) :
    pauseNow i had s = outOfService i s := by
  rw [pauseNow, if_pos ((pauseNow_condition_iff i had s).2 pauses)]
  by_cases isOpen : s.ctc.entries[i].windowOpen = true
  · have notSpent : ¬(s.ctc.entries[i].spent && true) = true := by
      rw [kept isOpen]
      exact Bool.false_ne_true
    rw [forceClose_of_open (s := removePoints i s) isOpen, outOfService_of_open isOpen]
    exact if_neg notSpent
  · rw [forceClose_of_closed (s := removePoints i s) isOpen, outOfService_of_closed isOpen]

/-- R97, R120: a spent entry with its window open is spent as it goes out of service. -/
theorem pauseNow_of_spent {i : EntryNo} {had : Bool} {s : State} (pauses : PausesNow i had s)
    (isOpen : s.ctc.entries[i].windowOpen = true) (spent : s.ctc.entries[i].spent = true) :
    pauseNow i had s = spend (forcedOccasion s) i (outOfService i s) := by
  have spends : (s.ctc.entries[i].spent && true) = true := by rw [spent, Bool.and_true]
  rw [pauseNow, if_pos ((pauseNow_condition_iff i had s).2 pauses), forceClose_of_open (s := removePoints i s) isOpen,
    outOfService_of_open isOpen]
  exact if_pos spends

/-! ### MODIFY_FLAGS (R96, R97) -/

/-- Entry i takes these flags. -/
def withFlags (i : EntryNo) (f : EntryFlags) (s : State) : State :=
  s.modEntry i fun e => { e with image := { e.image with flags := f } }

theorem withFlags_entry (i : EntryNo) (f : EntryFlags) (s : State) :
    (withFlags i f s).ctc.entries[i] =
      { s.ctc.entries[i] with image := { s.ctc.entries[i].image with flags := f } } := by
  simp only [withFlags, State.modEntry_ctc_entries, vmod_self]

/-- The table after the flags and then the spent close of the window of one entry. -/
theorem withFlags_spent_ctc (i : EntryNo) (f : EntryFlags) (s : State) :
    ((withFlags i f s).modEntry i fun e => { e with windowOpen := false, state := .held }).ctc =
      { s.ctc with entries := s.ctc.entries.set i.val { s.ctc.entries[i] with
        image := { s.ctc.entries[i].image with flags := f }, windowOpen := false, state := .held } } := by
  simp only [withFlags, State.modEntry, vmod_vmod]
  rfl

theorem actModifyFlags_of_outOfRange {p : Port} {i : EntryNo} {x y : Byte} {s : State}
    (own : s.ctc.entries[i].owner = some p) (range : 8 ≤ x.toNat ∨ 8 ≤ y.toNat ∨ x &&& y ≠ 0) :
    actModifyFlags p (octet i.val) x y s = (s, Reply.bare .range) := by
  rw [actModifyFlags, onOwnEntry_own _ own]
  simp only [flagMasks_of_outOfRange range]

/-- R96: MODIFY_FLAGS in range answers with the new flags, which keep every flag that no mask names. -/
theorem modifyFlags_answers {p : Port} {i : EntryNo} {x y : Byte} {f : EntryFlags} {s : State}
    (own : s.ctc.entries[i].owner = some p) (xLow : x.toNat < 8) (yLow : y.toNat < 8) (apart : x &&& y = 0)
    (flags : f = s.ctc.entries[i].image.flags.modify (flagsAt x) (flagsAt y)) :
    Answers (.modifyFlags p (octet i.val) x y) p [0x26, octet i.val, x, y] [0x00, f.code] s
      (pauseNow i s.ctc.entries[i].image.flags.pause (withFlags i f s)) := by
  have acts : actModifyFlags p (octet i.val) x y s
      = (pauseNow i s.ctc.entries[i].image.flags.pause (withFlags i f s), ⟨.ok, [f.code]⟩) := by
    rw [actModifyFlags, onOwnEntry_own _ own, flags]
    simp only [flagMasks_of_range xLow yLow apart]
    rfl
  exact answers_of (act := actModifyFlags p (octet i.val) x y) rfl rfl (by rw [acts]) (by rw [acts]; rfl)

/-- Settles O43: the masks, then the three ways on from the flags written. -/
theorem modifyFlagsSetsAndClears : Obligations.ModifyFlagsSetsAndClears := by
  refine fun p i x y s own => ⟨fun range => ?_, fun xLow yLow apart => ?_⟩
  · exact answers_of_refusal (act := actModifyFlags p (octet i.val) x y) .range rfl rfl
      (actModifyFlags_of_outOfRange own range)
  · obtain ⟨f, flags⟩ : ∃ f, f = s.ctc.entries[i].image.flags.modify (flagsAt x) (flagsAt y) := ⟨_, rfl⟩
    have code : f.code = (s.ctc.entries[i].image.flags.code ||| x) &&& ~~~y := by
      rw [flags, modify_code, flagsAt_code xLow, flagsAt_code yLow]
    have answers := modifyFlags_answers own xLow yLow apart flags
    have entry := withFlags_entry i f s
    have pausesNow_iff : PausesNow i s.ctc.entries[i].image.flags.pause (withFlags i f s) ↔
        s.ls.lock = .holdover ∧ s.ctc.entries[i].state = .live ∧ f.pause = true
          ∧ s.ctc.entries[i].image.flags.pause = false := by
      rw [PausesNow, entry]
      rfl
    refine ⟨_, f, withFlags i f s, rfl, code, rfl, fun other => ?_, fun lock live pause had kept => ?_,
      fun lock live pause had isOpen spent => ⟨_, _, rfl, rfl, ?_⟩⟩
    · rw [pauseNow_of_not fun pauses => other (pausesNow_iff.1 pauses)] at answers
      exact answers
    · rw [pauseNow_of_kept (pausesNow_iff.2 ⟨lock, live, pause, had⟩) (by rw [entry]; exact kept)] at answers
      exact answers
    · have isOpen' : (withFlags i f s).ctc.entries[i].windowOpen = true := by rw [entry]; exact isOpen
      have spent' : (withFlags i f s).ctc.entries[i].spent = true := by rw [entry]; exact spent
      rw [pauseNow_of_spent (pausesNow_iff.2 ⟨lock, live, pause, had⟩) isOpen' spent', spend_outOfService isOpen' spent',
        withFlags_spent_ctc, entry] at answers
      exact answers

end Sys2Proof.Proofs
end

section
/-! PROOFS. Outside the firing set nothing waits to fire and no commit waits (R91, R125, R126, R180): what each operation of
the reference path, each timed event and each request does to that law. -/

namespace Sys2Proof.Proofs

open Sys2Proof Sys2Proof.Machine Sys2Proof.Safety

/-! ### The law and what it speaks of -/

/-- All that the law reads of a state. -/
structure Waiting where
  firing : Bool
  tickets : List Ticket
  deferred : List DeferredPoint
  commit : Option RefConfig
  entries : Vector Entry 64

def waitingOf (s : State) : Waiting := ⟨s.inFiring, s.fs.tickets, s.fs.deferred, s.cc.pendingRecord, s.ctc.entries⟩

/-- Nothing waits to fire: both lists are empty, no entry is ARMING and no window is open. -/
def Idle (s : State) : Prop :=
  s.fs.tickets = [] ∧ s.fs.deferred = []
    ∧ ∀ i : EntryNo, s.ctc.entries[i].state ≠ .arming ∧ s.ctc.entries[i].windowOpen = false

/-- Outside the firing set nothing waits to fire, and the commit is as C asks: C is `NoCommit` where a departure applies a
waiting commit, and nothing at all within an application, where the record is on its way out (R179, R180). -/
def QuietBut (C : Option RefConfig → Prop) (s : State) : Prop := s.inFiring = false → Idle s ∧ C s.cc.pendingRecord

/-- No commit waits. -/
def NoCommit (r : Option RefConfig) : Prop := r = none

theorem quietOutsideFiring_iff (s : State) : QuietOutsideFiring s ↔ QuietBut NoCommit s := by
  simp only [QuietOutsideFiring, QuietBut, Idle, NoCommit]
  exact ⟨fun h outside => let ⟨a, b, c, d⟩ := h outside; ⟨⟨a, b, d⟩, c⟩,
    fun h outside => let ⟨⟨a, b, d⟩, c⟩ := h outside; ⟨a, b, c, d⟩⟩

variable {C : Option RefConfig → Prop} {s t : State}

/-- In the firing set anything may wait. -/
theorem QuietBut.of_inside (inside : s.inFiring = true) : QuietBut C s := fun outside =>
  absurd (inside.symm.trans outside) (by decide)

/-- An operation that leaves what waits may move the firing set only by entering it. -/
theorem QuietBut.of_moved (h : QuietBut C s) {firing : Bool} (e : waitingOf t = { waitingOf s with firing := firing })
    (enters : firing = false → s.inFiring = false) : QuietBut C t := by
  obtain ⟨set, tickets, deferred, commit, entries⟩ := Waiting.mk.inj e
  intro outside
  have quiet := h (enters (set.symm.trans outside))
  simp only [waitingOf] at tickets deferred commit entries
  simpa only [Idle, tickets, deferred, commit, entries] using quiet

theorem QuietBut.congr (h : QuietBut C s) (e : waitingOf t = waitingOf s) : QuietBut C t := h.of_moved e id

/-- Across FS's frame a state in the firing set stays there. -/
theorem QuietBut.of_frame (inside : s.inFiring = true) (f : FiringFrame s t) : QuietBut C t :=
  .of_inside (f.inFiring.trans inside)

/-- The operation keeps the law. -/
def KeepsQuiet (C : Option RefConfig → Prop) (f : State → State) : Prop := ∀ s, QuietBut C s → QuietBut C (f s)

theorem keepsQuiet_foldl {α : Type} {f : State → α → State} (hf : ∀ s a, QuietBut C s → QuietBut C (f s a))
    (l : List α) : KeepsQuiet C fun s => l.foldl f s := by
  induction l with
  | nil => exact fun _ h => h
  | cons a rest ih => exact fun s h => ih _ (hf s a h)

/-! ### Operations that leave what waits -/

theorem waitingOf_setStandstill (timer : Timer) (s : State) : waitingOf (setStandstill timer s) = waitingOf s := rfl

theorem waitingOf_startStandstill (s : State) : waitingOf (startStandstill s) = waitingOf s := by
  unfold startStandstill
  split <;> rfl

/-- A move of the lock state with its settle leaves what waits. -/
theorem waitingOf_moveLock (l : LockState) (s : State) :
    waitingOf (moveLock l s) = { waitingOf s with firing := (moveLock l s).inFiring } := by
  rw [moveLock_eq]
  rfl

theorem waitingOf_fall {l : LockState} (low : l = .stopped ∨ l = .search) (s : State) :
    waitingOf (fall l s) = { waitingOf s with firing := false } := by
  rw [fall_eq]
  rcases low with rfl | rfl <;> rfl

theorem inFiring_of_low (low : s.ls.lock = .stopped ∨ s.ls.lock = .search ∨ s.ls.lock = .acquire) :
    s.inFiring = false := by
  rcases low with e | e | e <;> simp only [State.inFiring, LockSupervisor.inFiring, e]

/-- A fall from STOPPED, SEARCH or ACQUIRE. -/
theorem QuietBut.fall (h : QuietBut C s) {l : LockState} (below : l = .stopped ∨ l = .search)
    (low : s.ls.lock = .stopped ∨ s.ls.lock = .search ∨ s.ls.lock = .acquire) : QuietBut C (fall l s) :=
  h.of_moved (waitingOf_fall below s) fun _ => inFiring_of_low low

theorem goOnToStopped_quiet : KeepsQuiet C goOnToStopped := by
  intro s h
  unfold goOnToStopped
  split
  · next low => exact h.fall (.inl rfl) (.inr low.1)
  · exact h

theorem waitingOf_noteSynth (rep : StepReport) (s : State) : waitingOf (noteSynth rep s) = waitingOf s := by
  unfold noteSynth
  split <;> rfl

theorem waitingOf_countHoldover (rep : StepReport) (s : State) : waitingOf (countHoldover rep s) = waitingOf s := by
  unfold countHoldover
  split <;> rfl

theorem waitingOf_judgeStep (rep : StepReport) (s : State) : waitingOf (judgeStep rep s) = waitingOf s := by
  unfold judgeStep
  split <;> rfl

theorem waitingOf_handOverNoise (rep : StepReport) (s : State) : waitingOf (handOverNoise rep s) = waitingOf s := by
  rw [handOverNoise_eq]
  rfl

theorem waitingOf_trackEdge (s : State) : waitingOf (trackEdge s) = waitingOf s := by
  rw [trackEdge_frame]
  rfl

theorem waitingOf_indexArrival (s : State) : waitingOf (indexArrival s) = waitingOf s := by
  rw [indexArrival_eq]
  split
  · rfl
  · split <;> rfl

theorem waitingOf_setLine (line : LineId) (f : FilterLine → FilterLine) (s : State) :
    waitingOf (setLine line f s) = waitingOf s := by
  rw [setLine_frame]
  rfl

theorem waitingOf_reevaluateGate (n : GateNo) (s : State) : waitingOf (reevaluateGate n s) = waitingOf s := by
  unfold reevaluateGate
  split
  · rfl
  · rw [gateChanged_eq]
    simp only
    split <;> rfl

theorem waitingOf_reevaluateDepth (old : RefConfig) (s : State) : waitingOf (reevaluateDepth old s) = waitingOf s := by
  unfold reevaluateDepth
  split <;> rfl

theorem waitingOf_tellHolder (s : State) : waitingOf (tellHolder s) = waitingOf s := by
  unfold tellHolder
  split <;> rfl

/-! ### Moves of the lock state that FS has no part in (R57, R65, R66) -/

/-- R65: into LOCKED from outside the firing set, or with no settle. -/
theorem enterLocked_quiet {n : Nat} (h : QuietBut C s) (source : s.inFiring = false ∨ n = 0) :
    QuietBut C (enterLocked n s) := by
  refine h.of_moved (waitingOf_moveLock _ _) fun outside => source.resolve_right ?_
  rintro rfl
  rw [moveLock_eq] at outside
  simp [State.inFiring, LockSupervisor.inFiring] at outside

theorem enterHoldover_quiet (s : State) : QuietBut C (enterHoldover s) := by
  refine .of_frame ?_ (holdoverDiscard_frame _)
  rw [moveLock_eq]
  rfl

/-- R65: the settle counts down in LOCKED outside the firing set. -/
theorem countSettle_quiet (h : QuietBut C s) (locked : s.ls.lock = .locked) : QuietBut C (countSettle s) := by
  unfold countSettle
  split
  · exact h
  · next settling =>
      have outside : s.inFiring = false := by
        simpa [State.inFiring, LockSupervisor.inFiring, locked] using settling
      simp only
      split <;> exact h.of_moved rfl fun _ => outside

theorem realEdgeNotice_quiet : KeepsQuiet C realEdgeNotice := by
  intro s h
  unfold realEdgeNotice
  simp only
  split
  · next stopped => exact QuietBut.fall (h.congr (waitingOf_setStandstill _ s)) (.inr rfl) (.inl stopped)
  · exact h.congr rfl

/-! ### The loss teardown (R125) -/

/-- R125: parts 1 to 4 of the teardown leave nothing that waits to fire. -/
theorem teardownParts_idle (s : State) : Idle (activateArming (applyOnLoss (forceCloseAll (discardLists s)))) := by
  obtain ⟨tickets, deferred⟩ := teardownParts_lists s
  refine ⟨tickets, deferred, fun i => ?_⟩
  have closed := closed_of_forceCloseAll (discardLists s) i
  rw [activateArming_ctc_entries, vall_at, applyOnLoss_ctc]
  generalize (forceCloseAll (discardLists s)).ctc.entries[i] = e at closed ⊢
  split
  · exact ⟨(by decide : EntryState.live ≠ .arming), closed⟩
  · next other => exact ⟨other, closed⟩

/-- An application of a waiting commit that keeps the law, and that the law holds after wherever nothing waits to fire. -/
structure Applies (C : Option RefConfig → Prop) (ap : State → State) : Prop where
  keeps : KeepsQuiet C ap
  settles : ∀ s, Idle s → QuietBut C (ap s)

section Application

variable {ap : State → State} (applies : Applies C ap)

include applies

/-- R56, R125: a transition from a state that keeps the law, with the teardown where it leaves the firing set. -/
theorem departFrom_quiet {before : State} (h : QuietBut C before) {firing : Bool}
    (e : waitingOf s = { waitingOf before with firing := firing }) : QuietBut C (departFrom ap before s) := by
  unfold departFrom
  split
  · exact applies.settles _ (teardownParts_idle s)
  · next outside => exact h.of_moved e fun _ => Bool.eq_false_iff.2 outside

theorem enterSearch_quiet : KeepsQuiet C (enterSearch ap) := fun s h =>
  goOnToStopped_quiet _ (departFrom_quiet applies h
    ((waitingOf_startStandstill _).trans (waitingOf_fall (.inr rfl) s)))

theorem enterAcquire_quiet : KeepsQuiet C (enterAcquire ap) := fun _ h =>
  goOnToStopped_quiet _ (departFrom_quiet applies h (waitingOf_moveLock _ _))

theorem restart_quiet : KeepsQuiet C (restart ap) := fun s h =>
  departFrom_quiet applies h (waitingOf_fall (.inl rfl) s)

theorem standstillExpires_quiet : KeepsQuiet C (standstillExpires ap) := by
  intro s h
  have expired : QuietBut C (setStandstill .expired s) := h.congr rfl
  unfold standstillExpires
  simp only
  split
  · next search => exact expired.fall (.inl rfl) (.inr (.inl search))
  · next acquire => exact expired.fall (.inl rfl) (.inr (.inr acquire))
  · split
    · exact enterSearch_quiet applies _ expired
    · exact expired
  · split
    · exact enterSearch_quiet applies _ expired
    · exact expired
  · exact expired
  · exact expired

/-! ### Judging steps (R59 to R67) -/

theorem stepInAcquire_quiet (rep : StepReport) (h : QuietBut C s) (acquire : s.ls.lock = .acquire) :
    QuietBut C (stepInAcquire ap rep s) := by
  have same : waitingOf (judgeStep rep (noteSynth rep s)) = waitingOf s :=
    (waitingOf_judgeStep rep _).trans (waitingOf_noteSynth rep s)
  have judged := h.congr same
  have outside : (judgeStep rep (noteSynth rep s)).inFiring = false :=
    (congrArg Waiting.firing same).trans (inFiring_of_low (.inr (.inr acquire)))
  unfold stepInAcquire
  simp only
  split
  · exact enterSearch_quiet applies _ judged
  · split
    · exact enterLocked_quiet judged (.inl outside)
    · exact judged

theorem stepInLocked_quiet (rep : StepReport) (h : QuietBut C s) (locked : s.ls.lock = .locked) :
    QuietBut C (stepInLocked ap rep s) := by
  have judged := h.congr ((waitingOf_judgeStep rep _).trans (waitingOf_noteSynth rep s))
  unfold stepInLocked
  simp only
  split
  · exact enterAcquire_quiet applies _ judged
  · split
    · exact enterHoldover_quiet _
    · split
      · refine countSettle_quiet judged ?_
        rw [judgeStep_noteSynth]
        exact (judged_lock _ rep s.ls).trans locked
      · exact judged

theorem stepInHoldover_quiet (rep : StepReport) : KeepsQuiet C (stepInHoldover ap rep) := by
  intro s h
  have judged := h.congr ((waitingOf_judgeStep rep _).trans
    ((waitingOf_countHoldover rep _).trans (waitingOf_noteSynth rep s)))
  unfold stepInHoldover
  simp only
  split
  · exact enterSearch_quiet applies _ judged
  · split
    · exact enterAcquire_quiet applies _ judged
    · split
      · exact enterLocked_quiet judged (.inr rfl)
      · exact judged

theorem supervise_quiet (rep : StepReport) : KeepsQuiet C (supervise ap rep) := by
  intro s h
  unfold supervise
  split
  · exact h
  · split
    · exact enterAcquire_quiet applies s h
    · exact h
  · next acquire => exact stepInAcquire_quiet applies rep h acquire
  · next locked => exact stepInLocked_quiet applies rep h locked
  · exact stepInHoldover_quiet applies rep s h
  · exact h

/-! ### A step (R35, R105, R109, R126) -/

/-- R126: in the firing set FS may list what it likes, and the commit that it applies at tooth 0 keeps the law; outside it
finds both lists empty and lists nothing. -/
theorem schedulerStep_quiet (rep : StepReport) : KeepsQuiet C (schedulerStep ap rep) := by
  intro s h
  cases set : s.inFiring with
  | false =>
      obtain ⟨⟨tickets, deferred, -⟩, -⟩ := h set
      rw [schedulerStep_of_quiet ap rep tickets deferred set]
      exact h.congr rfl
  | true =>
      have flushed := (stepFlush_frame (toothAngle s.cc.active.toothCount rep.tooth) rep.cycle s).inFiring.trans set
      have activated (u : State) (inside : u.inFiring = true) : QuietBut C (stepActivation ap rep u) := by
        unfold stepActivation
        split
        · exact applies.keeps _ (.of_frame inside (activateArming_frame u))
        · exact .of_inside inside
      unfold schedulerStep stepEnumeration
      simp only
      split
      · next inside => exact .of_frame inside (enumerate_frame _ _ _)
      · exact activated _ flushed

theorem handStep_quiet (rep : StepReport) : KeepsQuiet C (handStep ap rep) := fun s h =>
  schedulerStep_quiet applies rep _ (supervise_quiet applies rep _ (h.congr (waitingOf_handOverNoise rep s)))

theorem realStep_quiet : KeepsQuiet C (realStep ap) := fun _ h => handStep_quiet applies _ _ (h.congr rfl)

theorem alignStep_quiet : KeepsQuiet C (alignStep ap) := fun _ h => handStep_quiet applies _ _ (h.congr rfl)

theorem synthStep_quiet : KeepsQuiet C (synthStep ap) := fun _ h => handStep_quiet applies _ _ (h.congr rfl)

theorem freeRunStep_quiet : KeepsQuiet C (freeRunStep ap) := fun _ h => handStep_quiet applies _ _ (h.congr rfl)

/-! ### Edges (R4 to R13, R38) -/

theorem generatorEdge_quiet : KeepsQuiet C (generatorEdge ap) := by
  intro s h
  have noticed : QuietBut C { realEdgeNotice s with ag := { (realEdgeNotice s).ag with synthSinceReal := false } } :=
    (realEdgeNotice_quiet s h).congr rfl
  have moved : QuietBut C (if inLateWindow s then
      lateAcceptance { realEdgeNotice s with ag := { (realEdgeNotice s).ag with synthSinceReal := false } }
      else realStep ap { realEdgeNotice s with ag := { (realEdgeNotice s).ag with synthSinceReal := false } }) := by
    split
    · exact noticed.congr rfl
    · exact realStep_quiet applies _ noticed
  unfold generatorEdge
  simp only
  split
  · exact noticed
  · split
    · exact alignStep_quiet applies _ noticed
    · exact noticed
  · exact moved
  · exact moved
  · exact moved
  · exact noticed

theorem toothEdge_quiet : KeepsQuiet C (toothEdge ap) := by
  intro s h
  unfold toothEdge
  split
  · exact h.congr rfl
  · exact generatorEdge_quiet applies _ (h.congr (waitingOf_trackEdge s))

theorem edgeArrives_quiet (line : LineId) : KeepsQuiet C (edgeArrives ap line) := by
  intro s h
  unfold edgeArrives
  split
  · split
    · exact toothEdge_quiet applies s h
    · exact h
  · split
    · exact h.congr (waitingOf_indexArrival s)
    · exact h
  · exact h

theorem filteredTransition_quiet (line : LineId) : KeepsQuiet C (filteredTransition ap line) := by
  intro s h
  have settled (l : LineId) : QuietBut C (settleLine l s) := h.congr (waitingOf_setLine l _ s)
  unfold filteredTransition
  split
  · exact (settled _).congr (waitingOf_reevaluateGate _ _)
  · exact edgeArrives_quiet applies _ _ (settled _)
  · exact edgeArrives_quiet applies _ _ (settled _)

end Application

/-! ### Applying a record (R3, R13, R179): within it no further commit is asked for -/

/-- The condition on the commit within an application. -/
def AnyCommit (_ : Option RefConfig) : Prop := True

theorem applies_id : Applies AnyCommit id := ⟨fun _ h => h, fun _ idle _ => ⟨idle, trivial⟩⟩

theorem classAEffects_quiet : KeepsQuiet AnyCommit classAEffects := by
  intro s h
  have fallen (u : State) : waitingOf (setStandstill (.running 0) (fall .search u)) = { waitingOf u with firing := false } :=
    waitingOf_fall (.inr rfl) u
  unfold classAEffects classALock
  simp only
  split
  · exact h.congr rfl
  · next search =>
      exact QuietBut.of_moved (h.congr rfl) (fallen _) fun _ => inFiring_of_low (.inr (.inl search))
  · exact departFrom_quiet applies_id (h.congr rfl) (fallen _)
  · exact departFrom_quiet applies_id (h.congr rfl) (fallen _)
  · exact departFrom_quiet applies_id (h.congr rfl) (fallen _)
  · exact h.congr rfl

theorem judgeStandstillLimit_quiet : KeepsQuiet AnyCommit judgeStandstillLimit := by
  intro s h
  unfold judgeStandstillLimit
  simp only
  split
  · exact standstillExpires_quiet applies_id _ (h.congr rfl)
  · exact h.congr rfl

theorem expireAtApplication_quiet (line : LineId) (h : QuietBut AnyCommit s) :
    QuietBut AnyCommit (expireAtApplication s line) := by
  unfold expireAtApplication
  split
  · exact edgeArrives_quiet applies_id _ _ (h.congr (waitingOf_setLine line _ s))
  · exact h

theorem requalify_quiet (old : RefConfig) : KeepsQuiet AnyCommit (requalify old) := by
  intro s h
  unfold requalify
  refine keepsQuiet_foldl (fun u n hu => hu.congr (waitingOf_reevaluateGate n u)) _ _ ?_
  refine QuietBut.congr (s := List.foldl expireAtApplication _ _) ?_ rfl
  exact keepsQuiet_foldl (fun u line hu => expireAtApplication_quiet line hu) _ _ (h.congr rfl)

theorem carryOutChange_quiet (old new : RefConfig) : KeepsQuiet AnyCommit (carryOutChange old new) := by
  intro s h
  have classA : QuietBut AnyCommit (if classAChanged old new then classAEffects s else s) := by
    split
    · exact classAEffects_quiet s h
    · exact h
  have depths (t : State) (ht : QuietBut AnyCommit t) : QuietBut AnyCommit
      (if old.acquireDepth ≠ new.acquireDepth ∨ old.lockedDepth ≠ new.lockedDepth then reevaluateDepth old t else t) := by
    split
    · exact ht.congr (waitingOf_reevaluateDepth old t)
    · exact ht
  unfold carryOutChange
  simp only
  refine requalify_quiet old _ ?_
  split
  · exact judgeStandstillLimit_quiet _ (depths _ classA)
  · exact depths _ classA

/-- R179, R180: an application finds whatever record waits, and none waits after it. -/
theorem applyRecord_quiet (new : RefConfig) (h : QuietBut AnyCommit s) : QuietBut NoCommit (applyRecord new s) := by
  have idle : QuietBut AnyCommit (applyRecord new s) := by
    unfold applyRecord
    simp only
    refine QuietBut.congr ?_ (waitingOf_tellHolder _)
    split
    · exact h
    · exact carryOutChange_quiet _ _ _ h
  exact fun outside => ⟨(idle outside).1, (applyRecord_pending new s).1⟩

theorem QuietBut.anyCommit (h : QuietBut C s) : QuietBut AnyCommit s := fun outside => ⟨(h outside).1, trivial⟩

theorem applies_applyPending : Applies NoCommit applyPending where
  keeps := by
    intro s h
    unfold applyPending
    split
    · exact h
    · exact applyRecord_quiet _ h.anyCommit
  settles := by
    intro s idle
    unfold applyPending
    split
    · next free => exact fun _ => ⟨idle, free⟩
    · exact applyRecord_quiet _ fun _ => ⟨idle, trivial⟩

/-! ### FREERUN_ON and the raw levels (R2, R50, R70) -/

/-- R70: FREERUN is in the firing set. -/
theorem startFreeRun_quiet (s : State) : QuietBut NoCommit (startFreeRun s) := by
  unfold startFreeRun
  simp only
  split
  · refine .of_frame ?_ (freerunRetime_frame _)
    rw [moveLock_eq]
    rfl
  · refine handStep_quiet applies_applyPending _ _ (.of_inside ?_)
    rw [moveLock_eq]
    rfl

theorem rawChange_quiet (line : LineId) (level : Bool) : KeepsQuiet NoCommit (rawChange line level) := by
  intro s h
  unfold rawChange
  split
  · exact h
  · split
    · split
      · exact h.congr (waitingOf_setLine _ _ s)
      · exact filteredTransition_quiet applies_applyPending line _ (h.congr (waitingOf_setLine _ _ s))
    · exact h.congr (waitingOf_setLine _ _ s)

end Sys2Proof.Proofs
end

section
/-! PROOFS. Quiet outside the firing set (R91, R125, R126, R180), continued: the requests, the events, and every step. -/

namespace Sys2Proof.Proofs

open Sys2Proof Sys2Proof.Machine Sys2Proof.Safety

/-! ### Checks that requests share (R86, R173), for any property of the state after -/

theorem onOwnEntry_elim {Q : State → Prop} {p : Port} {index : Byte} {s : State} {f : EntryNo → State × Reply} (h : Q s)
    (hf : ∀ i : EntryNo, Q (f i).1) : Q (onOwnEntry p index s f).1 := by
  unfold onOwnEntry
  split
  · exact h
  · split
    · exact hf _
    · exact h

theorem holderOnly_elim {Q : State → Prop} {p : Port} {s : State} {r : State × Reply} (h : Q s) (hr : Q r.1) :
    Q (holderOnly p s r).1 := by
  unfold holderOnly
  split
  · exact hr
  · exact h

/-! ### Requests on entries (R85 to R97) -/

/-- The entry is not ARMING and its window is closed. -/
def Calm (e : Entry) : Prop := e.state ≠ .arming ∧ e.windowOpen = false

/-- A change of one entry that leaves a calm one calm. -/
theorem modEntry_quiet {C : Option RefConfig → Prop} {s : State} (h : QuietBut C s) (i : EntryNo) {f : Entry → Entry}
    (calm : s.inFiring = false → Calm s.ctc.entries[i] → Calm (f s.ctc.entries[i])) : QuietBut C (s.modEntry i f) := by
  intro outside
  obtain ⟨⟨tickets, deferred, entries⟩, commit⟩ := h outside
  refine ⟨⟨tickets, deferred, fun j => ?_⟩, commit⟩
  rw [State.modEntry_ctc_entries, vmod_at]
  split
  · next same =>
      subst same
      exact calm outside (entries i)
  · exact entries j

theorem removePoints_quiet {C : Option RefConfig → Prop} (i : EntryNo) : KeepsQuiet C (removePoints i) := by
  intro s h outside
  obtain ⟨⟨tickets, deferred, entries⟩, commit⟩ := h outside
  exact ⟨⟨by rw [removePoints_fs_tickets, tickets]; rfl, by rw [removePoints_fs_deferred, deferred]; rfl, entries⟩, commit⟩

/-- R93: outside the firing set there is no window to close. -/
theorem withdrawEntry_quiet {C : Option RefConfig → Prop} (i : EntryNo) : KeepsQuiet C (withdrawEntry i) := by
  intro s h
  cases set : s.inFiring with
  | true => exact .of_frame set (withdrawEntry_frame i s)
  | false =>
      obtain ⟨⟨-, -, entries⟩, -⟩ := h set
      rw [withdrawEntry_of_closed (Bool.eq_false_iff.1 (entries i).2)]
      exact removePoints_quiet i s h

theorem freeOne_quiet {C : Option RefConfig → Prop} (i : EntryNo) : KeepsQuiet C (freeOne i) := by
  intro s h
  refine modEntry_quiet ?_ i fun _ _ => ⟨(by decide : EntryState.free ≠ .arming), rfl⟩
  split
  · exact withdrawEntry_quiet i s h
  · exact h

/-- The request keeps the law, whatever it answers. -/
def ActKeepsQuiet (act : State → State × Reply) : Prop := ∀ s, QuietBut NoCommit s → QuietBut NoCommit (act s).1

theorem actAllocEntry_quiet (p : Port) : ActKeepsQuiet (actAllocEntry p) := by
  intro s h
  unfold actAllocEntry
  split
  · exact h
  · split
    · exact h
    · next i _ =>
        have given : QuietBut NoCommit (s.modEntry i fun _ => { Entry.default with state := .held, owner := some p }) :=
          modEntry_quiet h i fun _ _ => ⟨(by decide : EntryState.held ≠ .arming), rfl⟩
        exact given.congr rfl

theorem actWriteEntry_quiet (p : Port) (index : Byte) (image : RawImage) : ActKeepsQuiet (actWriteEntry p index image) := by
  refine fun s h => onOwnEntry_elim h fun i => ?_
  split
  · split
    · exact h
    · exact modEntry_quiet h i fun _ calm => calm
  · exact h

/-- R90: outside the firing set ARM_ENTRY makes the entry LIVE at once. -/
theorem actArmEntry_quiet (p : Port) (index : Byte) : ActKeepsQuiet (actArmEntry p index) := by
  refine fun s h => onOwnEntry_elim h fun i => ?_
  split
  · split
    · exact h
    · refine modEntry_quiet h i fun outside ⟨_, closed⟩ => ⟨?_, closed⟩
      simp only [armedState, outside]
      decide
  · exact h

theorem actHoldEntry_quiet (p : Port) (index : Byte) : ActKeepsQuiet (actHoldEntry p index) := by
  refine fun s h => onOwnEntry_elim h fun i => ?_
  split
  · exact modEntry_quiet (withdrawEntry_quiet i s h) i fun _ ⟨_, closed⟩ =>
      ⟨(by decide : EntryState.held ≠ .arming), closed⟩
  · exact h

theorem actFreeEntry_quiet (p : Port) (index : Byte) : ActKeepsQuiet (actFreeEntry p index) := fun s h =>
  onOwnEntry_elim h fun i => (freeOne_quiet i s h).congr rfl

/-- R97: PAUSE closes a window at once in HOLDOVER alone, which is in the firing set. -/
theorem pauseNow_quiet {C : Option RefConfig → Prop} (i : EntryNo) (had : Bool) : KeepsQuiet C (pauseNow i had) := by
  intro s h
  by_cases pauses : PausesNow i had s
  · obtain ⟨holdover, -⟩ := pauses
    refine .of_frame ?_ (pauseNow_frame i had s)
    simp only [State.inFiring, LockSupervisor.inFiring, holdover]
  · rwa [pauseNow_of_not pauses]

theorem actModifyFlags_quiet (p : Port) (index setMask clearMask : Byte) :
    ActKeepsQuiet (actModifyFlags p index setMask clearMask) := by
  refine fun s h => onOwnEntry_elim h fun i => ?_
  split
  · exact h
  · exact pauseNow_quiet i _ _ (modEntry_quiet h i fun _ calm => calm)

/-! ### Requests on the reference and the configuration (R70, R72, R73, R178) -/

theorem actFreerunOn_quiet (p : Port) : ActKeepsQuiet (actFreerunOn p) := fun s h =>
  holderOnly_elim h (startFreeRun_quiet s)

theorem actFreerunOff_quiet (p : Port) : ActKeepsQuiet (actFreerunOff p) := by
  refine fun s h => holderOnly_elim h ?_
  split
  · exact enterSearch_quiet applies_applyPending s h
  · exact h

theorem actRestartReference_quiet (p : Port) : ActKeepsQuiet (actRestartReference p) := fun s h =>
  holderOnly_elim h (restart_quiet applies_applyPending s h)

/-- R178: a commit waits in the firing set alone, and outside it is applied at once. -/
theorem actCommit_quiet (p : Port) : ActKeepsQuiet (actCommit p) := by
  refine fun s h => holderOnly_elim h ?_
  split
  · exact h
  · exact h
  · split
    · next inside => exact .of_inside inside
    · exact applyRecord_quiet _ h.anyCommit

/-! ### DETACH (R193) -/

theorem waitingOf_giveUpClaim (p : Port) (s : State) : waitingOf (giveUpClaim p s) = waitingOf s := by
  have noted : waitingOf (noteDiscarded p s) = waitingOf s := by
    unfold noteDiscarded
    split
    · rfl
    · split <;> rfl
  refine Eq.trans ?_ noted
  unfold giveUpClaim passClaim
  split <;> rfl

theorem waitingOf_detachClaim (p : Port) (s : State) : waitingOf (detachClaim p s) = waitingOf s := by
  refine Eq.trans (b := waitingOf (if s.cc.holder = some p then giveUpClaim p s else s)) rfl ?_
  split
  · exact waitingOf_giveUpClaim p s
  · rfl

theorem waitingOf_modOwned (p : Port) (f : Nat → Nat) (s : State) : waitingOf (modOwned p f s) = waitingOf s := rfl

theorem detachEntries_quiet {C : Option RefConfig → Prop} (p : Port) : KeepsQuiet C (detachEntries p) := by
  intro s h
  have freed (t : State) (i : EntryNo) (ht : QuietBut C t) : QuietBut C (freeIfOwned p t i) := by
    unfold freeIfOwned
    split
    · exact freeOne_quiet i t ht
    · exact ht
  rw [detachEntries_eq]
  exact (keepsQuiet_foldl freed allEntries s h).congr (waitingOf_modOwned p _ _)

theorem actDetach_quiet (p : Port) : ActKeepsQuiet (actDetach p) := by
  intro s h
  have released (t : State) : waitingOf (releaseTracksOf p t) = waitingOf t := rfl
  have rest (t : State) : waitingOf (((detachMarks p t).modEvents p fun _ => EventPort.default).modPort p
      fun q => { q with frameErrors := 0 }) = waitingOf t := rfl
  exact (detachEntries_quiet p s h).congr ((rest _).trans ((waitingOf_detachClaim p _).trans (released _)))

/-! ### Every command -/

/-- The request moves something that the law reads. -/
def movesWaiting : Instr → Bool
  | .assignTrack _ _ => false
  | .releaseTrack _ _ => false
  | .setTrack _ _ _ _ _ => false
  | .driveTrack _ _ _ => false
  | i => movesTable i

/-- A request on tracks, on event delivery, on the claim and the staged copy, or one that only reads leaves what waits. -/
theorem waitingOf_requestAct {i : Instr} {act : State → State × Reply} (e : requestAct i = some act)
    (still : movesWaiting i = false) (s : State) : waitingOf (act s).1 = waitingOf s := by
  cases i <;> simp only [requestAct, movesWaiting, movesTable, Option.some.injEq, reduceCtorEq] at e still <;> subst e
  case releaseClaim p =>
    unfold actReleaseClaim
    split
    · exact waitingOf_giveUpClaim p s
    · rfl
  case assignTrack | releaseTrack | setTrack | driveTrack =>
    simp only [actAssignTrack, actReleaseTrack, actSetTrack, actDriveTrack, onOwnTrack, onTrackNo]
    repeat' split
    all_goals rfl
  case clearCounters | discard =>
    simp only [actClearCounters, actDiscard, holderOnly]
    split <;> rfl
  case readEntry | readTrack | popEvent | readSlot | withdraw =>
    simp only [actReadEntry, actReadTrack, onTrackNo, actPopEvent, actReadSlot, actWithdraw]
    split <;> rfl
  case readLatest | setQuota =>
    simp only [actReadLatest, actSetQuota, holderOnly]
    repeat' split
    all_goals rfl
  case writeSlot | setAttnMask | requestClaim | stageParam | readParam =>
    simp only [actWriteSlot, actSetAttnMask, actRequestClaim, actStageParam, actReadParam, holderOnly]
    repeat' split
    all_goals rfl
  all_goals rfl

theorem requestAct_quiet {i : Instr} {act : State → State × Reply} (e : requestAct i = some act) : ActKeepsQuiet act := by
  cases still : movesWaiting i with
  | false => exact fun s h => h.congr (waitingOf_requestAct e still s)
  | true =>
      cases i <;> simp only [requestAct, movesWaiting, movesTable, Option.some.injEq, reduceCtorEq] at e still <;> subst e
      case detach p => exact actDetach_quiet p
      case freerunOn p => exact actFreerunOn_quiet p
      case freerunOff p => exact actFreerunOff_quiet p
      case restartReference p => exact actRestartReference_quiet p
      case allocEntry p => exact actAllocEntry_quiet p
      case writeEntry p index image => exact actWriteEntry_quiet p index image
      case armEntry p index => exact actArmEntry_quiet p index
      case holdEntry p index => exact actHoldEntry_quiet p index
      case freeEntry p index => exact actFreeEntry_quiet p index
      case modifyFlags p index setMask clearMask => exact actModifyFlags_quiet p index setMask clearMask
      case commit p => exact actCommit_quiet p

theorem takeRequest_quiet {act : State → State × Reply} (keeps : ActKeepsQuiet act) (p : Port) (i : Instr) :
    KeepsQuiet NoCommit (takeRequest p i act) := by
  intro s h
  unfold takeRequest
  split
  · exact h
  · split
    · exact (keeps s h).congr rfl
    · exact h

/-- A clock edge changes a port, and the request that it completes does the rest (R186, R187). -/
theorem clockEdge_quiet (p : Port) (rising sdi : Bool) : KeepsQuiet NoCommit (clockEdge p rising sdi) := by
  intro s h
  have rises : QuietBut NoCommit (risingEdge p sdi s) := by
    unfold risingEdge
    split
    · exact h.congr rfl
    · exact h.congr rfl
    · exact h.congr rfl
    · exact h.congr rfl
    · split
      · exact h.congr rfl
      · next act e =>
          obtain ⟨i, -, hi⟩ := Option.bind_eq_some_iff.1 e
          exact (requestAct_quiet hi s h).congr rfl
  unfold clockEdge
  split
  · exact h
  · split
    · exact h.congr rfl
    · split
      · exact rises
      · exact h.congr rfl

theorem waitingOf_selectRises (p : Port) (s : State) : waitingOf (selectRises p s) = waitingOf s := by
  unfold selectRises
  split <;> rfl

/-- R114: a ticket is due only where one is listed, which is in the firing set. -/
theorem fireFirstTicket_quiet {C : Option RefConfig → Prop} : KeepsQuiet C fireFirstTicket := by
  intro s h
  unfold fireFirstTicket
  split
  · exact h
  · next listed =>
      refine .of_frame (Bool.of_not_eq_false fun outside => ?_) ((firingFrame_of_fs s _).trans (fire_frame _ _ _ _))
      obtain ⟨⟨tickets, -⟩, -⟩ := h outside
      simp [tickets] at listed

theorem holdInReset_quiet (s : State) : QuietBut NoCommit (holdInReset s) :=
  QuietBut.congr ((quietOutsideFiring_iff _).1 quietOutsideFiring_reset) rfl

/-- An event of the inputs, of the clock or of a port's lines answers a next state that keeps the law. -/
theorem exec_event_quiet {i : Instr} (e : requestAct i = none) {s : State} (h : QuietBut NoCommit s) :
    ∃ t, exec i s = .next t ∧ QuietBut NoCommit t := by
  cases i <;> simp only [requestAct, reduceCtorEq] at e <;> refine ⟨_, rfl, ?_⟩
  case deviceReset => exact holdInReset_quiet s
  case serialClockEdge p rising sdi => exact clockEdge_quiet p rising sdi s h
  case selectFall => exact h.congr rfl
  all_goals split
  case rawLevelChange.isTrue => exact holdInReset_quiet _
  case rawLevelChange.isFalse line level _ => exact rawChange_quiet line level s h
  case runExpiry.isTrue line _ => exact filteredTransition_quiet applies_applyPending line s h
  case standstillExpiry.isTrue => exact standstillExpires_quiet applies_applyPending s h
  case missDeadlineExpiry.isTrue => exact synthStep_quiet applies_applyPending s h
  case freeStep.isTrue => exact freeRunStep_quiet applies_applyPending s h
  case ticketDue.isTrue => exact fireFirstTicket_quiet s h
  case gapCountExpiry.isTrue => exact h.congr rfl
  case pulseEnd.isTrue => exact h.congr rfl
  case selectRise.isFalse p _ => exact h.congr (waitingOf_selectRises p s)
  all_goals exact h

theorem exec_quiet {i : Instr} {s t : State} (h : QuietBut NoCommit s) (e : exec i s = .next t) : QuietBut NoCommit t := by
  cases hi : requestAct i with
  | some act =>
      obtain ⟨p, taken⟩ := exec_of_requestAct hi s
      obtain rfl : takeRequest p i act s = t := Host.Outcome.next.inj (taken.symm.trans e)
      exact takeRequest_quiet (requestAct_quiet hi) p i s h
  | none =>
      obtain ⟨u, hu, quiet⟩ := exec_event_quiet hi h
      exact Host.Outcome.next.inj (hu.symm.trans e) ▸ quiet

theorem tick_quiet : KeepsQuiet NoCommit tick := by
  intro s h
  unfold tick
  split
  · exact (holdInReset_quiet s).congr rfl
  · exact h.congr rfl

theorem step_quiet {s t : State} (h : QuietBut NoCommit s) (e : step s = .next t) : QuietBut NoCommit t := by
  unfold step at e
  split at e
  · unfold ownStep at e
    split at e
    · exact Host.Outcome.next.inj e ▸ tick_quiet s h
    · exact exec_quiet h e
    · exact exec_quiet (s := { s with freeCount := s.freeCount + 1 }) (h.congr rfl) e
  · next rest _ => exact exec_quiet (s := { s with pending := rest }) (h.congr rfl) e

/-- Settles O57: a departure from the firing set tears down and applies what waits, and outside it nothing is listed. -/
theorem everyStepKeepsQuietOutsideFiring : Obligations.EveryStepKeepsQuietOutsideFiring := fun s t quiet e =>
  (quietOutsideFiring_iff t).2 (step_quiet ((quietOutsideFiring_iff s).1 quiet) e)

end Sys2Proof.Proofs
end

section
/-! PROOFS. Firing a point (R98, R99, R114, R116 to R122): what a START and an END do to a LIVE entry, in the words of the
statements. -/

namespace Sys2Proof.Proofs

open Sys2Proof Sys2Proof.Machine Sys2Proof.Safety

/-! ### A due ticket fires its point (R114) -/

/-- R114: the ticket that is due is taken off, and its point is fired in the state without it. -/
theorem exec_ticketDue_of_due {tk : Ticket} {s : State} (due : tk.due = s.stamp) :
    exec .ticketDue { s with fs := { s.fs with tickets := tk :: s.fs.tickets } }
      = .next (fire ⟨false, false, some tk.cycle, s.angle⟩ tk.entry tk.point s) :=
  congrArg Host.Outcome.next (if_pos (beq_iff_eq.2 due))

theorem firesTo_of_fire {o : Occasion} {i : EntryNo} {pt : Point} {s t : State} (fires : fire o i pt s = t) :
    FiresTo o i pt s t := by
  refine ⟨fires, ?_⟩
  rintro tk rfl rfl due rfl
  rw [exec_ticketDue_of_due due, fires]

/-! ### Which part fires the point (R116 to R119) -/

theorem fire_start_of_window {o : Occasion} {i : EntryNo} {s : State} (live : s.ctc.entries[i].state = .live)
    (window : s.ctc.entries[i].image.action = .window) :
    fire o i .start s = fireWindowStart o i (markTaken i .start s) := by
  have live' : (markTaken i .start s).ctc.entries[i].state = .live := live
  have window' : (markTaken i .start s).ctc.entries[i].image.action = .window := window
  simp only [fire, if_pos live', window']

theorem fire_stop_of_window {o : Occasion} {i : EntryNo} {s : State} (live : s.ctc.entries[i].state = .live)
    (window : s.ctc.entries[i].image.action = .window) :
    fire o i .stop s = fireWindowEnd o i (markTaken i .stop s) := by
  have live' : (markTaken i .stop s).ctc.entries[i].state = .live := live
  have window' : (markTaken i .stop s).ctc.entries[i].image.action = .window := window
  simp only [fire, if_pos live', window']

theorem fire_start_of_point {o : Occasion} {i : EntryNo} {s : State} (live : s.ctc.entries[i].state = .live)
    (point : s.ctc.entries[i].image.action ≠ .window) :
    fire o i .start s = firePointStart o i (markTaken i .start s) := by
  have live' : (markTaken i .start s).ctc.entries[i].state = .live := live
  have action : (markTaken i .start s).ctc.entries[i].image.action = s.ctc.entries[i].image.action := rfl
  simp only [fire, if_pos live', action]
  cases named : s.ctc.entries[i].image.action with
  | window => exact absurd named point
  | note => rfl
  | set => rfl
  | clear => rfl
  | pulse => rfl

/-! ### Events and the spent condition, with the rest of the state (R120 to R122) -/

/-- An event goes to ER alone, so that the lists, the table and the tracks may be changed before it or after it. -/
theorem reported_with (kind : EventKind) (o : Occasion) (i : EntryNo) (e : Entry) (s : State) (fs : FiringScheduler)
    (ctc : CamTable) (td : Vector Track 8) :
    reported kind o i e { s with fs := fs, ctc := ctc, td := td }
      = { reported kind o i e s with fs := fs, ctc := ctc, td := td } := by
  unfold reported
  split <;> rfl

theorem reported_fs (kind : EventKind) (o : Occasion) (i : EntryNo) (e : Entry) (s : State) :
    (reported kind o i e s).fs = s.fs := by
  unfold reported
  split <;> rfl

theorem reported_td (kind : EventKind) (o : Occasion) (i : EntryNo) (e : Entry) (s : State) :
    (reported kind o i e s).td = s.td := by
  unfold reported
  split <;> rfl

/-- R120, R122: entry x spent, told by an entry e with the same tag, flags and owner. -/
theorem spend_eq_reported {o : Occasion} {i : EntryNo} {e x : Entry} {s : State} {c : CamTable}
    (tag : x.image.tag = e.image.tag) (flags : x.image.flags = e.image.flags) (owner : x.owner = e.owner) :
    spend o i { s with ctc := { c with entries := c.entries.set i.val x } } =
      { reported .spent { o with forced := false } i e s with
        ctc := { c with entries := c.entries.set i.val { x with state := .held, spent := true } }
        fs := (removePoints i s).fs } := by
  have moved : (removePoints i { s with ctc := { c with entries := c.entries.set i.val x } }).modEntry i
      (fun e => { e with state := .held, spent := true }) = { s with
      fs := (removePoints i s).fs
      ctc := { c with entries := c.entries.set i.val { x with state := .held, spent := true } }
      td := s.td } := by
    simp [State.modEntry, vmod_eq_set, removePoints]
  have told (t : State) (image : t.ctc.entries[i].image = x.image) (own : t.ctc.entries[i].owner = x.owner) :
      postEntry .spent { o with forced := false } i t = reported .spent { o with forced := false } i e t := by
    simp only [postEntry, entryEvent, reported, image, own, tag, flags, owner]
  rw [spend, moved, told, reported_with]
  · simp only [reported_td]
  · simp
  · simp

end Sys2Proof.Proofs
end

section
/-! PROOFS. The STARTs and the END of entries that are LIVE (R116 to R122). -/

namespace Sys2Proof.Proofs

open Sys2Proof Sys2Proof.Machine Sys2Proof.Safety

/-! ### NOTE, SET, CLEAR and PULSE (R117, R98) -/

/-- R117, R98: what a satisfied START does before the spent condition is looked at. -/
theorem firePointStart_counts {o : Occasion} {i : EntryNo} (s : State) :
    (postEntry .fire o i (startAction s.ctc.entries[i].image s)).modEntry i (Entry.countStart o) =
      { reported .fire o i s.ctc.entries[i] (startAction s.ctc.entries[i].image s) with
        ctc := { s.ctc with entries := s.ctc.entries.set i.val (s.ctc.entries[i].countStart o) } } := by
  rw [postEntry_eq_reported (e := s.ctc.entries[i]) (by rw [startAction_ctc]) (by rw [startAction_ctc])]
  simp only [State.modEntry, reported_ctc, startAction_ctc, vmod_eq_set]

/-- R117, R98: a satisfied START that does not use the last count. -/
theorem firePointStart_of_satisfied {o : Occasion} {i : EntryNo} {e : Entry} {s : State} (entry : s.ctc.entries[i] = e)
    (satisfied : gateSatisfied s e.image.gate = true) (more : e.image.count ≠ 1) :
    firePointStart o i s = { reported .fire o i e (startAction e.image s) with
      ctc := { s.ctc with entries := s.ctc.entries.set i.val (e.countStart o) } } := by
  subst entry
  simp only [firePointStart, if_pos satisfied, if_neg more, firePointStart_counts]

/-- R120, R122: the START that uses the last count spends its entry behind it. -/
theorem firePointStart_of_last {o : Occasion} {i : EntryNo} {e : Entry} {s : State} (entry : s.ctc.entries[i] = e)
    (satisfied : gateSatisfied s e.image.gate = true) (last : e.image.count = 1) :
    firePointStart o i s =
      { reported .spent { o with forced := false } i e (reported .fire o i e (startAction e.image s)) with
        ctc := { s.ctc with
          entries := s.ctc.entries.set i.val
            { e with state := .held, spent := true, lastFired := o.cycle, image := { e.image with count := 0 } } }
        fs := (removePoints i s).fs } := by
  subst entry
  let fired := reported .fire o i s.ctc.entries[i] (startAction s.ctc.entries[i].image s)
  have lists : (removePoints i fired).fs = (removePoints i s).fs := by
    simp only [fired, removePoints, reported_fs, startAction_fs]
  calc firePointStart o i s
      _ = spend o i { fired with
            ctc := { s.ctc with entries := s.ctc.entries.set i.val (s.ctc.entries[i].countStart o) } } := by
          rw [← firePointStart_counts]
          simp only [firePointStart, if_pos satisfied, if_pos last]
      _ = _ := spend_eq_reported (e := s.ctc.entries[i]) rfl rfl rfl
      _ = _ := by
          rw [lists]
          simp only [Entry.countStart, last, fired]

/-- R117: the track action, in the words of the statements. -/
theorem startAction_of_taken {i : EntryNo} {im : EntryImage} {s : State} (point : im.action ≠ .window) :
    startAction im (markTaken i .start s) = { s with
      fs := { s.fs with taken := s.fs.taken.set i.val { s.fs.taken[i] with start := true } }
      td := match im.action, im.track, im.width with
        | .set, some k, _ => s.td.set k.val { s.td[k] with latch := true }
        | .clear, some k, _ => s.td.set k.val { s.td[k] with latch := false }
        | .pulse, some k, some w => s.td.set k.val { s.td[k] with pulse := some (4 * w) }
        | _, _, _ => s.td } := by
  unfold startAction
  cases named : im.action with
  | window => exact absurd named point
  | note => rfl
  | set => cases im.track <;> rfl
  | clear => cases im.track <;> rfl
  | pulse => cases im.width <;> cases im.track <;> rfl

/-- Settles O25: a satisfied START fires from the marked state, and the last count spends its entry behind the count. -/
theorem satisfiedStartFiresAPointAction : Obligations.SatisfiedStartFiresAPointAction := by
  unfold Obligations.SatisfiedStartFiresAPointAction
  rintro o i _ s rfl live point satisfied
  refine ⟨startAction s.ctc.entries[i].image (markTaken i .start s), startAction_of_taken point, fun more => ?_,
    fun last => ?_⟩
  · refine firesTo_of_fire ((fire_start_of_point live point).trans ?_)
    exact firePointStart_of_satisfied rfl satisfied more
  · refine firesTo_of_fire ((fire_start_of_point live point).trans ?_)
    refine (firePointStart_of_last (s := markTaken i .start s) rfl satisfied last).trans ?_
    rw [startAction_fs]
    rfl

end Sys2Proof.Proofs
end

section
/-! PROOFS. The STARTs that do nothing but report, and the window that a START opens and an END closes
(R116 to R119, R98, R99, R120, R122). -/

namespace Sys2Proof.Proofs

open Sys2Proof Sys2Proof.Machine Sys2Proof.Safety

/-! ### Refused and dropped STARTs (R116, R117, R118) -/

theorem refuseStart_eq_reported (o : Occasion) (i : EntryNo) (s : State) :
    refuseStart o i s =
      if s.ctc.entries[i].image.flags.reportGated = true then reported .gated o i s.ctc.entries[i] s else s := by
  rw [refuseStart, postEntry_eq_reported rfl rfl]

theorem firePointStart_of_refused {o : Occasion} {i : EntryNo} {s : State}
    (refused : gateSatisfied s s.ctc.entries[i].image.gate = false) : firePointStart o i s = refuseStart o i s :=
  if_neg (by rw [refused]; exact Bool.false_ne_true)

theorem fireWindowStart_of_open {o : Occasion} {i : EntryNo} {s : State} (isOpen : s.ctc.entries[i].windowOpen = true) :
    fireWindowStart o i s = s :=
  if_pos isOpen

theorem fireWindowStart_of_refused {o : Occasion} {i : EntryNo} {s : State} (closed : s.ctc.entries[i].windowOpen = false)
    (refused : gateSatisfied s s.ctc.entries[i].image.gate = false) : fireWindowStart o i s = refuseStart o i s :=
  (if_neg (by rw [closed]; exact Bool.false_ne_true)).trans (if_neg (by rw [refused]; exact Bool.false_ne_true))

/-- R117, R118: a refused START of any action, in the state with its taken mark. -/
theorem fire_start_of_refused {o : Occasion} {i : EntryNo} {s : State} (live : s.ctc.entries[i].state = .live)
    (closed : s.ctc.entries[i].image.action = .window → s.ctc.entries[i].windowOpen = false)
    (refused : gateSatisfied s s.ctc.entries[i].image.gate = false) :
    fire o i .start s = refuseStart o i (markTaken i .start s) := by
  by_cases window : s.ctc.entries[i].image.action = .window
  · exact (fire_start_of_window live window).trans
      (fireWindowStart_of_refused (s := markTaken i .start s) (closed window) refused)
  · exact (fire_start_of_point live window).trans (firePointStart_of_refused (s := markTaken i .start s) refused)

/-- Settles O26: a refused START comes down to its GATED event, a dropped one to its taken mark. -/
theorem refusedAndDroppedStarts : Obligations.RefusedAndDroppedStarts := by
  unfold Obligations.RefusedAndDroppedStarts
  rintro o i _ s rfl live
  refine ⟨markTaken i .start s, rfl, fun closed refused => ?_, fun window isOpen => ?_⟩
  · exact firesTo_of_fire ((fire_start_of_refused live closed refused).trans (refuseStart_eq_reported o i _))
  · exact firesTo_of_fire
      ((fire_start_of_window live window).trans (fireWindowStart_of_open (s := markTaken i .start s) isOpen))

/-! ### A window opens (R118, R98, R99) -/

theorem onTrack_eq (k : Option TrackNo) (f : Track → Track) (s : State) :
    onTrack k f s = { s with
      td := match k with
        | none => s.td
        | some k => s.td.set k.val (f s.td[k]) } := by
  cases k <;> rfl

/-- R118: a satisfied START of a closed WINDOW, in the state with its taken mark. -/
theorem fireWindowStart_of_closed {o : Occasion} {i : EntryNo} {e : Entry} {s : State} (entry : s.ctc.entries[i] = e)
    (closed : e.windowOpen = false) (satisfied : gateSatisfied s e.image.gate = true) :
    fireWindowStart o i s = { reported .opened o i e s with
      fs := s.fs
      td := match e.image.track with
        | none => s.td
        | some k => s.td.set k.val (s.td[k].windowUp)
      ctc := { s.ctc with
        entries := s.ctc.entries.set i.val { e with
          windowOpen := true
          spent := e.spent || e.image.count == 1
          lastFired := o.cycle
          image := { e.image with count := e.image.count - 1 } } } } := by
  subst entry
  have notOpen : ¬s.ctc.entries[i].windowOpen = true := by rw [closed]; exact Bool.false_ne_true
  unfold fireWindowStart
  simp only [if_neg notOpen, if_pos satisfied]
  rw [postEntry_eq_reported (e := s.ctc.entries[i]) (by simp only [onTrack_ctc, State.modEntry_ctc_entries, vmod_self])
    (by simp only [onTrack_ctc, State.modEntry_ctc_entries, vmod_self]), onTrack_eq, ← reported_modEntry]
  refine Eq.trans (congrArg (reported .opened o i s.ctc.entries[i]) ?_) (reported_with ..)
  simp only [State.modEntry, vmod_eq_set, Vector.set_set, Entry.countStart, Vector.getElem_set_self, Fin.getElem_fin]

/-- Settles O27: the START opens its window in the marked state, and the mark goes past the OPEN event. -/
theorem satisfiedStartOpensTheWindow : Obligations.SatisfiedStartOpensTheWindow := by
  unfold Obligations.SatisfiedStartOpensTheWindow
  rintro o i _ s rfl live window closed satisfied
  refine firesTo_of_fire ((fire_start_of_window live window).trans ?_)
  refine (fireWindowStart_of_closed (s := markTaken i .start s) rfl closed satisfied).trans ?_
  have told : reported .opened o i (markTaken i .start s).ctc.entries[i] (markTaken i .start s) =
      { reported .opened o i s.ctc.entries[i] s with fs := (markTaken i .start s).fs, ctc := s.ctc, td := s.td } :=
    reported_with ..
  rw [told]
  rfl

/-! ### A window closes (R119, R120, R122) -/

/-- R119: the close of a window, in the words of the statements. -/
theorem closeWindow_eq {o : Occasion} {i : EntryNo} {e : Entry} {s : State} (entry : s.ctc.entries[i] = e) :
    closeWindow o i s = { reported .close o i e s with
      td := match e.image.track with
        | none => s.td
        | some k => s.td.set k.val { s.td[k] with windowCount := s.td[k].windowCount - 1 }
      ctc := { s.ctc with entries := s.ctc.entries.set i.val { e with windowOpen := false } } } := by
  subst entry
  rw [closeWindow_eq_reported, onTrack_eq]
  refine (reported_with .close o i s.ctc.entries[i] s s.fs _ _).trans ?_
  simp only [reported_fs]
  rfl

theorem fireWindowEnd_of_closed {o : Occasion} {i : EntryNo} {s : State} (closed : s.ctc.entries[i].windowOpen = false) :
    fireWindowEnd o i s = s :=
  if_neg (by rw [closed]; exact Bool.false_ne_true)

theorem fireWindowEnd_of_unspent {o : Occasion} {i : EntryNo} {s : State} (isOpen : s.ctc.entries[i].windowOpen = true)
    (unspent : s.ctc.entries[i].spent = false) : fireWindowEnd o i s = closeWindow o i s :=
  (if_pos isOpen).trans (if_neg (by rw [unspent]; exact Bool.false_ne_true))

theorem fireWindowEnd_of_spent {o : Occasion} {i : EntryNo} {s : State} (isOpen : s.ctc.entries[i].windowOpen = true)
    (spent : s.ctc.entries[i].spent = true) : fireWindowEnd o i s = spend o i (closeWindow o i s) :=
  (if_pos isOpen).trans (if_pos spent)

/-- R119, R120: the close of a window whose entry is spent puts the entry out of service. -/
theorem spend_closeWindow_eq {o : Occasion} {i : EntryNo} {e : Entry} {s : State} (entry : s.ctc.entries[i] = e)
    (spent : e.spent = true) :
    spend o i (closeWindow o i s) = { reported .spent { o with forced := false } i e (closeWindow o i s) with
      ctc := { s.ctc with entries := s.ctc.entries.set i.val { e with windowOpen := false, state := .held } }
      fs := (removePoints i s).fs } := by
  have told := spend_eq_reported (o := o) (i := i) (e := e) (x := { e with windowOpen := false }) (s := closeWindow o i s)
    (c := s.ctc) rfl rfl rfl
  have same : ({ closeWindow o i s with
      ctc := { s.ctc with entries := s.ctc.entries.set i.val { e with windowOpen := false } } } : State)
        = closeWindow o i s := by
    rw [closeWindow_eq entry]
  have lists : (removePoints i (closeWindow o i s)).fs = (removePoints i s).fs := by
    simp only [removePoints, closeWindow_fs]
  rw [same, lists] at told
  rw [told, spent]

/-- Settles O28: the END in the marked state finds its window closed, or open, or open and spent. -/
theorem endClosesTheWindow : Obligations.EndClosesTheWindow := by
  unfold Obligations.EndClosesTheWindow
  rintro o i _ s rfl live window
  let taken := markTaken i .stop s
  refine ⟨taken, closeWindow o i taken, rfl, closeWindow_eq (i := i) (s := taken) rfl, fun closed => ?_,
    fun isOpen unspent => ?_, fun isOpen spent => ?_⟩
  · exact firesTo_of_fire ((fire_stop_of_window live window).trans (fireWindowEnd_of_closed (s := taken) closed))
  · exact firesTo_of_fire ((fire_stop_of_window live window).trans (fireWindowEnd_of_unspent (s := taken) isOpen unspent))
  · refine firesTo_of_fire ((fire_stop_of_window live window).trans ?_)
    exact (fireWindowEnd_of_spent (s := taken) isOpen spent).trans (spend_closeWindow_eq (s := taken) rfl spent)

end Sys2Proof.Proofs
end

section
/-! PROOFS. A step at the scheduler (R105 to R110): what is left is fired LATE one point after another, whatever fuel the
loops are given, and then the tooth entered is enumerated. -/

namespace Sys2Proof.Proofs

open Sys2Proof Sys2Proof.Machine Sys2Proof.Safety

/-! ### Loops with enough fuel -/

section Loops

variable {loop : Nat → State → State} {next : State → Option State} {size : State → Nat}

/-- A loop whose turns make its list shorter gives the same for every fuel that is not less than the list. -/
theorem loop_eq_of_enough (start : ∀ s, loop 0 s = s) (turn : ∀ n s, loop (n + 1) s = (next s).elim s (loop n))
    (shorter : ∀ s t, next s = some t → size t < size s) {m n : Nat} {s : State} (hm : size s ≤ m) (hn : size s ≤ n) :
    loop m s = loop n s := by
  have done (k : Nat) {u : State} (last : next u = none) : loop k u = u := by
    cases k with
    | zero => exact start u
    | succ k => rw [turn, last, Option.elim_none]
  induction m generalizing n s with
  | zero =>
      have last : next s = none := Option.eq_none_iff_forall_ne_some.2 fun t more => by
        have := shorter s t more
        omega
      rw [done 0 last, done n last]
  | succ m ih =>
      cases more : next s with
      | none => rw [done _ more, done _ more]
      | some t =>
          have := shorter s t more
          obtain ⟨n, rfl⟩ := Nat.exists_eq_add_of_le' (show 1 ≤ n by omega)
          rw [turn, turn, more, Option.elim_some, Option.elim_some]
          exact ih (by omega) (by omega)

/-- One turn of such a loop, run with the length of its list as its fuel before and after. -/
theorem loop_turn (start : ∀ s, loop 0 s = s) (turn : ∀ n s, loop (n + 1) s = (next s).elim s (loop n))
    (shorter : ∀ s t, next s = some t → size t < size s) {s t : State} (more : next s = some t) :
    loop (size s) s = loop (size t) t := by
  have fewer := shorter s t more
  obtain ⟨k, size_eq⟩ := Nat.exists_eq_add_of_lt fewer
  calc loop (size s) s
      _ = loop (size t + k) t := by rw [size_eq, turn, more, Option.elim_some]
      _ = loop (size t) t := loop_eq_of_enough start turn shorter (Nat.le_add_right ..) (Nat.le_refl _)

end Loops

/-! ### The tickets and the deferred points that are left (R106, R107) -/

/-- The state once the first ticket left is fired LATE at the tooth's start (R106). -/
def afterLateTicket (angle : Nat) (s : State) : Option State :=
  match s.fs.tickets with
  | [] => none
  | tk :: rest => some (fire ⟨true, false, some tk.cycle, some angle⟩ tk.entry tk.point
      { s with fs := { s.fs with tickets := rest } })

theorem flushTickets_turn (angle n : Nat) (s : State) :
    flushTickets angle (n + 1) s = (afterLateTicket angle s).elim s (flushTickets angle n) := by
  cases listed : s.fs.tickets <;> simp only [flushTickets, afterLateTicket, listed, Option.elim_none, Option.elim_some]

theorem afterLateTicket_shorter (angle : Nat) (s t : State) (more : afterLateTicket angle s = some t) :
    t.fs.tickets.length < s.fs.tickets.length := by
  cases listed : s.fs.tickets with
  | nil => simp [afterLateTicket, listed] at more
  | cons tk rest =>
      simp only [afterLateTicket, listed, Option.some.injEq] at more
      subst more
      exact Nat.lt_succ_of_le (fire_shrinks ..).tickets.length_le

/-- The state once the first deferred point is fired LATE at the tooth's start (R107). -/
def afterLateDeferred (angle : Nat) (cycle : Option Cycle) (s : State) : Option State :=
  match s.fs.deferred with
  | [] => none
  | d :: rest => some (fire ⟨true, false, cycle, some angle⟩ d.entry d.point
      { s with fs := { s.fs with deferred := rest } })

theorem fireDeferred_turn (angle : Nat) (cycle : Option Cycle) (n : Nat) (s : State) :
    fireDeferred angle cycle (n + 1) s = (afterLateDeferred angle cycle s).elim s (fireDeferred angle cycle n) := by
  cases listed : s.fs.deferred <;> simp only [fireDeferred, afterLateDeferred, listed, Option.elim_none, Option.elim_some]

theorem afterLateDeferred_shorter (angle : Nat) (cycle : Option Cycle) (s t : State)
    (more : afterLateDeferred angle cycle s = some t) : t.fs.deferred.length < s.fs.deferred.length := by
  cases listed : s.fs.deferred with
  | nil => simp [afterLateDeferred, listed] at more
  | cons d rest =>
      simp only [afterLateDeferred, listed, Option.some.injEq] at more
      subst more
      exact Nat.lt_succ_of_le (fire_shrinks ..).deferred.length_le

theorem flushTickets_of_nil (angle : Nat) {s : State} (none : s.fs.tickets = []) :
    flushTickets angle s.fs.tickets.length s = s := by
  rw [none]
  rfl

/-! ### The step (R105) -/

/-- R106: the first ticket that is left, fired before the rest of the step. -/
theorem schedulerStep_of_ticket (ap : State → State) (rep : StepReport) {s : State} {tk : Ticket} {rest : List Ticket}
    (listed : s.fs.tickets = tk :: rest) :
    schedulerStep ap rep s = schedulerStep ap rep
      (fire ⟨true, false, some tk.cycle, some (toothAngle s.cc.active.toothCount rep.tooth)⟩ tk.entry tk.point
        { s with fs := { s.fs with tickets := rest } }) := by
  let angle := toothAngle s.cc.active.toothCount rep.tooth
  let t := fire ⟨true, false, some tk.cycle, some angle⟩ tk.entry tk.point { s with fs := { s.fs with tickets := rest } }
  have more : afterLateTicket angle s = some t := by simp only [afterLateTicket, listed, t]
  have settings : t.cc = s.cc := (fire_frame ..).cc
  have flushed : flushTickets angle s.fs.tickets.length s = flushTickets angle t.fs.tickets.length t :=
    loop_turn (size := fun u => u.fs.tickets.length) (fun _ => rfl) (flushTickets_turn angle)
      (afterLateTicket_shorter angle) more
  change _ = schedulerStep ap rep t
  simp only [schedulerStep, settings]
  exact congrArg (fun u => stepEnumeration rep (stepActivation ap rep (clearTaken rep.cycle (flushDeferred angle u)))) flushed

/-- R107: the first deferred point, fired with the cycle of its list where no ticket is left. -/
theorem schedulerStep_of_deferred (ap : State → State) (rep : StepReport) {s : State} {d : DeferredPoint}
    {rest : List DeferredPoint} (tickets : s.fs.tickets = []) (listed : s.fs.deferred = d :: rest) :
    schedulerStep ap rep s = schedulerStep ap rep
      (fire ⟨true, false, s.fs.deferredCycle, some (toothAngle s.cc.active.toothCount rep.tooth)⟩ d.entry d.point
        { s with fs := { s.fs with deferred := rest } }) := by
  let angle := toothAngle s.cc.active.toothCount rep.tooth
  let t := fire ⟨true, false, s.fs.deferredCycle, some angle⟩ d.entry d.point { s with fs := { s.fs with deferred := rest } }
  have more : afterLateDeferred angle s.fs.deferredCycle s = some t := by simp only [afterLateDeferred, listed, t]
  have settings : t.cc = s.cc := (fire_frame ..).cc
  have shrinks : ListsShrink { s with fs := { s.fs with deferred := rest } } t := fire_shrinks ..
  have none : t.fs.tickets = [] := List.sublist_nil.1 (tickets ▸ shrinks.tickets)
  have cycle : t.fs.deferredCycle = s.fs.deferredCycle := shrinks.deferredCycle
  have fired : fireDeferred angle s.fs.deferredCycle s.fs.deferred.length s =
      fireDeferred angle t.fs.deferredCycle t.fs.deferred.length t := by
    rw [cycle]
    exact loop_turn (size := fun u => u.fs.deferred.length) (fun _ => rfl) (fireDeferred_turn angle _)
      (afterLateDeferred_shorter angle _) more
  have flushed : flushDeferred angle s = flushDeferred angle t := by
    simp only [flushDeferred, fired]
  change _ = schedulerStep ap rep t
  simp only [schedulerStep, settings, flushTickets_of_nil _ tickets, flushTickets_of_nil _ none]
  exact congrArg (fun u => stepEnumeration rep (stepActivation ap rep (clearTaken rep.cycle u))) flushed

/-- R108: the state with the step's cycle seen, where nothing was listed. -/
theorem schedulerStep_of_none_listed (ap : State → State) (rep : StepReport) {s : State} (tickets : s.fs.tickets = [])
    (deferred : s.fs.deferred = []) :
    schedulerStep ap rep s = stepEnumeration rep (stepActivation ap rep { s with fs := { s.fs with
      deferredCycle := none
      taken := if rep.cycle = s.fs.cycleSeen then s.fs.taken else Vector.replicate 64 ⟨false, false⟩
      cycleSeen := rep.cycle } }) := by
  simp only [schedulerStep, flushTickets_of_nil _ tickets, flushDeferred_of_nil _ deferred, clearTaken_eq]

/-- R109: a tooth-0 step in the firing set activates and applies. -/
theorem stepActivation_eq (ap : State → State) (rep : StepReport) (s : State) :
    stepActivation ap rep s = if rep.tooth = 0 ∧ s.inFiring = true then
      ap { s with ctc := { s.ctc with
        entries := Vector.ofFn fun i =>
          if s.ctc.entries[i].state = .arming then { s.ctc.entries[i] with state := .live } else s.ctc.entries[i] } }
    else s := by
  simp only [stepActivation, Bool.and_eq_true, decide_eq_true_eq]
  rfl

/-- Settles O22: what is left is fired by the turns of its loop, and a step with nothing left activates and enumerates. -/
theorem stepFiresWhatIsLeftLate : Obligations.StepFiresWhatIsLeftLate := by
  unfold Obligations.StepFiresWhatIsLeftLate
  intro rep s
  refine ⟨_, rfl, fun tk rest listed => schedulerStep_of_ticket _ rep listed,
    fun d rest tickets listed => schedulerStep_of_deferred _ rep tickets listed, fun tickets deferred => ?_⟩
  refine ⟨_, _, rfl, rfl, (schedulerStep_of_none_listed applyPending rep tickets deferred).trans ?_⟩
  rw [stepActivation_eq]
  rfl

end Sys2Proof.Proofs
end

section
/-! PROOFS. The enumeration of a tooth (R110 to R113): which points it passes over, where the others go, and the order that
the two lists keep. -/

namespace Sys2Proof.Proofs

open Sys2Proof Sys2Proof.Machine Sys2Proof.Safety

/-! ### The order of the lists (R112, R113) -/

theorem pointsOrdered_iff_rank (i j : EntryNo) (a b : Point) :
    pointsOrdered i j a b ↔ i.val < j.val ∨ i.val = j.val ∧ a.rank ≤ b.rank := by
  have rank : a.rank ≤ b.rank ↔ a = .stop ∨ b = .start := by cases a <;> cases b <;> decide
  rw [pointsOrdered, rank, Fin.lt_def, Fin.ext_iff]

/-- The order that the ticket list stands in: no ticket falls due before the one in front of it (R112). -/
def NoLater (now : Stamp) (a b : Ticket) : Prop :=
  remaining now a.due < remaining now b.due
    ∨ remaining now a.due = remaining now b.due ∧ pointsOrdered a.entry b.entry a.point b.point

theorem ticketsOrdered_iff (now : Stamp) (l : List Ticket) : ticketsOrdered now l ↔ l.Pairwise (NoLater now) := Iff.rfl

theorem noLater_trans {now : Stamp} {a b c : Ticket} (first : NoLater now a b) (second : NoLater now b c) :
    NoLater now a c := by
  simp only [NoLater, pointsOrdered_iff_rank] at *
  omega

theorem ticketBefore_iff (now : Stamp) (a b : Ticket) :
    a.before now b = true ↔ remaining now a.due < remaining now b.due
      ∨ remaining now a.due = remaining now b.due
        ∧ (a.entry.val < b.entry.val ∨ a.entry.val = b.entry.val ∧ a.point.rank < b.point.rank) := by
  simp only [Ticket.before, Bool.or_eq_true, Bool.and_eq_true, decide_eq_true_eq, beq_iff_eq, Fin.ext_iff]

theorem noLater_of_before {now : Stamp} {a b : Ticket} (before : a.before now b = true) : NoLater now a b := by
  rw [ticketBefore_iff] at before
  simp only [NoLater, pointsOrdered_iff_rank]
  omega

theorem noLater_of_not_before {now : Stamp} {a b : Ticket} (before : ¬a.before now b = true) : NoLater now b a := by
  rw [ticketBefore_iff] at before
  simp only [NoLater, pointsOrdered_iff_rank]
  omega

/-- The order that the deferred list stands in (R113). -/
def InOrder (a b : DeferredPoint) : Prop := pointsOrdered a.entry b.entry a.point b.point

theorem deferredOrdered_iff (l : List DeferredPoint) : deferredOrdered l ↔ l.Pairwise InOrder := Iff.rfl

theorem inOrder_trans {a b c : DeferredPoint} (first : InOrder a b) (second : InOrder b c) : InOrder a c := by
  simp only [InOrder, pointsOrdered_iff_rank] at *
  omega

theorem deferredBefore_iff (a b : DeferredPoint) :
    a.before b = true ↔ a.entry.val < b.entry.val ∨ a.entry.val = b.entry.val ∧ a.point.rank < b.point.rank := by
  simp only [DeferredPoint.before, Bool.or_eq_true, Bool.and_eq_true, decide_eq_true_eq, beq_iff_eq, Fin.ext_iff]

theorem inOrder_of_before {a b : DeferredPoint} (before : a.before b = true) : InOrder a b := by
  rw [deferredBefore_iff] at before
  simp only [InOrder, pointsOrdered_iff_rank]
  omega

theorem inOrder_of_not_before {a b : DeferredPoint} (before : ¬a.before b = true) : InOrder b a := by
  rw [deferredBefore_iff] at before
  simp only [InOrder, pointsOrdered_iff_rank]
  omega

/-- A member put in front of the first one that it comes before keeps an order that the test respects. -/
theorem pairwise_orderedInsert {α : Type} {r R : α → α → Prop} [DecidableRel r]
    (trans : ∀ {a b c}, R a b → R b c → R a c) (before : ∀ {a b}, r a b → R a b) (after : ∀ {a b}, ¬r a b → R b a)
    (x : α) {l : List α} (ordered : l.Pairwise R) :
    (l.orderedInsert r x).Pairwise R := by
  induction l with
  | nil => exact List.pairwise_singleton R x
  | cons y rest ih =>
      obtain ⟨first, others⟩ := List.pairwise_cons.1 ordered
      by_cases front : r x y
      · rw [List.orderedInsert_cons_of_le _ _ front]
        refine List.pairwise_cons.2 ⟨fun z hz => ?_, ordered⟩
        rcases List.mem_cons.1 hz with rfl | hz
        · exact before front
        · exact trans (before front) (first z hz)
      · rw [List.orderedInsert_of_not_le _ _ front]
        refine List.pairwise_cons.2 ⟨fun z hz => ?_, ih others⟩
        rcases (List.mem_orderedInsert ..).1 hz with rfl | hz
        · exact after front
        · exact first z hz

theorem insertTicket_eq_orderedInsert (now : Stamp) (t : Ticket) (l : List Ticket) :
    insertTicket now t l = l.orderedInsert (fun a b => a.before now b = true) t := by
  induction l with
  | nil => rfl
  | cons u rest ih => rw [insertTicket, ih]; rfl

theorem insertDeferred_eq_orderedInsert (d : DeferredPoint) (l : List DeferredPoint) :
    insertDeferred d l = l.orderedInsert (fun a b => a.before b = true) d := by
  induction l with
  | nil => rfl
  | cons u rest ih => rw [insertDeferred, ih]; rfl

/-- R112: a ticket takes its place. -/
theorem ticketsOrdered_insertTicket {now : Stamp} (t : Ticket) {l : List Ticket} (ordered : ticketsOrdered now l) :
    ticketsOrdered now (insertTicket now t l) := by
  rw [ticketsOrdered_iff] at ordered ⊢
  rw [insertTicket_eq_orderedInsert]
  exact pairwise_orderedInsert (R := NoLater now) noLater_trans noLater_of_before noLater_of_not_before t ordered

/-- R113: a deferred point takes its place. -/
theorem deferredOrdered_insertDeferred (d : DeferredPoint) {l : List DeferredPoint} (ordered : deferredOrdered l) :
    deferredOrdered (insertDeferred d l) := by
  rw [deferredOrdered_iff] at ordered ⊢
  rw [insertDeferred_eq_orderedInsert]
  exact pairwise_orderedInsert (R := InOrder) inOrder_trans inOrder_of_before inOrder_of_not_before d ordered

/-! ### The entries and points that are enumerated (R110, R111) -/

theorem enumerable_iff (s : State) (e : Entry) :
    enumerable s e = true ↔ e.state = .live ∧ (s.ls.lock = .holdover → e.image.flags.pause = false) := by
  simp only [enumerable, Bool.and_eq_true, Bool.not_eq_true', Bool.and_eq_false_iff, beq_iff_eq, beq_eq_false_iff_ne]
  tauto

theorem pointAngle_eq (e : Entry) (pt : Point) : e.pointAngle pt = pointAngleOf e pt := by
  cases pt <;> rfl

theorem isTaken_iff (s : State) (i : EntryNo) (pt : Point) : isTaken s i pt ↔ s.fs.taken[i].of pt = true := by
  cases pt <;> rfl

theorem onList_iff (i : EntryNo) (pt : Point) (s : State) : onList i pt s = true ↔ isListed s i pt := by
  simp only [onList, isListed, Bool.or_eq_true, List.any_eq_true, Bool.and_eq_true, beq_iff_eq]

/-- R111, R128: a point that is open lies in the tooth, and neither its mark, a list nor the spent condition holds it. -/
theorem pointOpen_iff (b stop : Nat) (i : EntryNo) (pt : Point) (a : Nat) (s : State) :
    pointOpen b stop i pt a s = true ↔ b ≤ a ∧ a < stop ∧ ¬isTaken s i pt ∧ ¬isSpentStart s.ctc.entries[i] pt
      ∧ ¬isListed s i pt := by
  rw [isTaken_iff, ← onList_iff, isSpentStart]
  simp only [pointOpen, Bool.and_eq_true, decide_eq_true_eq, Bool.not_eq_true', beq_iff_eq, ← Bool.not_eq_true, and_assoc]

/-! ### Where a point goes (R111, R113) -/

section Point

variable {b ends : Nat} {period : Option Nat} {i : EntryNo} {pt : Point} {s : State} {a : Nat}

theorem enumeratePoint_of_no_angle (none : pointAngleOf s.ctc.entries[i] pt = none) :
    enumeratePoint b ends period i pt s = s := by
  rw [← pointAngle_eq] at none
  simp only [enumeratePoint, none]

theorem enumeratePoint_of_not_open (angle : pointAngleOf s.ctc.entries[i] pt = some a)
    (shut : ¬pointOpen b ends i pt a s = true) : enumeratePoint b ends period i pt s = s := by
  rw [← pointAngle_eq] at angle
  simp only [enumeratePoint, angle, if_neg shut]

theorem enumeratePoint_at_start (angle : pointAngleOf s.ctc.entries[i] pt = some b)
    (isOpen : pointOpen b ends i pt b s = true) :
    enumeratePoint b ends period i pt s = fire ⟨false, false, some s.ag.cycle, s.angle⟩ i pt s := by
  rw [← pointAngle_eq] at angle
  simp only [enumeratePoint, angle, if_pos isOpen, if_true]

theorem enumeratePoint_past_start (angle : pointAngleOf s.ctc.entries[i] pt = some a)
    (isOpen : pointOpen b ends i pt a s = true) (past : b < a) :
    enumeratePoint b ends period i pt s = period.elim (defer i pt s) fun p =>
      addTicket ⟨i, pt, s.stamp + BitVec.ofNat 24 (p * (a - b) / (ends - b)), s.ag.cycle⟩ s := by
  rw [← pointAngle_eq] at angle
  simp only [enumeratePoint, angle, if_pos isOpen, if_neg past.ne']
  cases period <;> rfl

theorem addTicket_of_room {tk : Ticket} (room : s.fs.tickets.length < 24) :
    addTicket tk s = { s with fs := { s.fs with tickets := insertTicket s.stamp tk s.fs.tickets } } :=
  if_pos room

theorem addTicket_of_full {tk : Ticket} (full : 24 ≤ s.fs.tickets.length) :
    addTicket tk s = defer tk.entry tk.point { s with fs := { s.fs with overflows := min (s.fs.overflows + 1) 65535 } } :=
  if_neg (Nat.not_lt.2 full)

/-- R113: a point past the tooth's start that no ticket can be made for. -/
theorem enumeratePoint_of_no_ticket (angle : pointAngleOf s.ctc.entries[i] pt = some a)
    (isOpen : pointOpen b ends i pt a s = true) (past : b < a) (noTicket : period = none ∨ 24 ≤ s.fs.tickets.length) :
    enumeratePoint b ends period i pt s = { s with fs := { s.fs with
      deferred := insertDeferred ⟨i, pt⟩ s.fs.deferred
      deferredCycle := if s.fs.deferred = [] then some s.ag.cycle else s.fs.deferredCycle
      overflows := if period = none then s.fs.overflows else min (s.fs.overflows + 1) 65535 } } := by
  rw [enumeratePoint_past_start angle isOpen past]
  cases period with
  | none => rfl
  | some p => exact addTicket_of_full (noTicket.resolve_left (Option.some_ne_none p))

end Point

/-- R110, R111: the entries are taken in index order, END before START, with the period read once. -/
theorem enumerate_eq_foldl (b ends : Nat) (s : State) :
    enumerate b ends s = (List.finRange 64).foldl
      (fun u i =>
        if u.ctc.entries[i].state = .live ∧ (u.ls.lock = .holdover → u.ctc.entries[i].image.flags.pause = false) then
          enumeratePoint b ends s.period i .start (enumeratePoint b ends s.period i .stop u)
        else u) s := by
  refine congrArg (fun f => (List.finRange 64).foldl f s) (funext fun u => funext fun i => ?_)
  simp only [enumerateEntry, enumerable_iff]

/-- A point that the enumeration passes over is not open. -/
theorem enumeratePoint_of_passed_over {b ends : Nat} {period : Option Nat} {i : EntryNo} {pt : Point} {s : State}
    (held : pointAngleOf s.ctc.entries[i] pt = none
      ∨ (∃ a, pointAngleOf s.ctc.entries[i] pt = some a ∧ (a < b ∨ ends ≤ a)) ∨ isTaken s i pt ∨ isListed s i pt
      ∨ isSpentStart s.ctc.entries[i] pt) :
    enumeratePoint b ends period i pt s = s := by
  cases angle : pointAngleOf s.ctc.entries[i] pt with
  | none => exact enumeratePoint_of_no_angle angle
  | some a =>
      refine enumeratePoint_of_not_open angle fun isOpen => ?_
      obtain ⟨above, below, free, unspent, unlisted⟩ := (pointOpen_iff ..).1 isOpen
      rcases held with none | ⟨x, same, outside⟩ | taken | listed | spent
      · exact Option.some_ne_none a (angle.symm.trans none)
      · rw [angle, Option.some.injEq] at same
        omega
      · exact free taken
      · exact unlisted listed
      · exact unspent spent

/-- Settles O23: the fold over the entries, and the places of a point that is open. -/
theorem enumerationPlacesEachPoint : Obligations.EnumerationPlacesEachPoint := by
  unfold Obligations.EnumerationPlacesEachPoint
  intro b ends period s
  refine ⟨enumerate_eq_foldl b ends s, ?_⟩
  rintro i pt _ rfl
  refine ⟨enumeratePoint_of_passed_over, fun a angle above below free unlisted unspent => ?_⟩
  have isOpen : pointOpen b ends i pt a s = true := (pointOpen_iff ..).2 ⟨above, below, free, unspent, unlisted⟩
  refine ⟨?_, ?_, ?_⟩
  · rintro rfl
    exact enumeratePoint_at_start angle isOpen
  · rintro p past rfl room
    exact ⟨_, insertTicket_perm .., ticketsOrdered_insertTicket _,
      (enumeratePoint_past_start angle isOpen past).trans (addTicket_of_room room)⟩
  · intro past noTicket
    exact ⟨_, insertDeferred_perm .., deferredOrdered_insertDeferred _,
      enumeratePoint_of_no_ticket angle isOpen past noTicket⟩

end Sys2Proof.Proofs
end

section
/-! PROOFS. FREERUN_ON at the scheduler (R128): the tickets that the new base angle has passed, and the due times of the
others. -/

namespace Sys2Proof.Proofs

open Sys2Proof Sys2Proof.Machine Sys2Proof.Safety

/-! ### The tickets below the new base angle -/

theorem ticketBelow_iff (b : Nat) (s : State) (tk : Ticket) :
    ticketBelow b s tk = true ↔ ∃ a, pointAngleOf s.ctc.entries[tk.entry] tk.point = some a ∧ a < b := by
  rw [ticketBelow, pointAngle_eq]
  cases pointAngleOf s.ctc.entries[tk.entry] tk.point <;> simp

theorem not_ticketBelow_of_reached {b : Nat} {s : State} {tk : Ticket}
    (reached : ∀ x, pointAngleOf s.ctc.entries[tk.entry] tk.point = some x → b ≤ x) : ¬ticketBelow b s tk = true := by
  rw [ticketBelow_iff]
  rintro ⟨x, angle, passed⟩
  exact Nat.not_lt.2 (reached x angle) passed

/-- The state once the first ticket below b is fired LATE at angle b (R128). -/
def afterPassed (b : Nat) (s : State) : Option State :=
  (s.fs.tickets.find? (ticketBelow b s)).map fun tk =>
    fire ⟨true, false, some tk.cycle, some b⟩ tk.entry tk.point
      { s with fs := { s.fs with tickets := s.fs.tickets.erase tk } }

theorem firePassed_turn (b n : Nat) (s : State) :
    firePassed b (n + 1) s = (afterPassed b s).elim s (firePassed b n) := by
  cases found : s.fs.tickets.find? (ticketBelow b s) <;>
    simp only [firePassed, afterPassed, found, Option.map_none, Option.map_some, Option.elim_none, Option.elim_some]

theorem afterPassed_shorter (b : Nat) (s t : State) (more : afterPassed b s = some t) :
    t.fs.tickets.length < s.fs.tickets.length := by
  obtain ⟨tk, found, rfl⟩ := Option.map_eq_some_iff.1 more
  have member := List.mem_of_find?_eq_some found
  have some_listed := List.length_pos_of_mem member
  calc _ ≤ (s.fs.tickets.erase tk).length := (fire_shrinks ..).tickets.length_le
    _ = s.fs.tickets.length - 1 := List.length_erase_of_mem member
    _ < _ := by omega

theorem firePassed_of_none {b n : Nat} {s : State} (none : s.fs.tickets.find? (ticketBelow b s) = none) :
    firePassed b n s = s := by
  cases n with
  | zero => rfl
  | succ n => simp only [firePassed, none]

/-- R128: the first ticket below the new base angle, fired before the rest. -/
theorem freerunRetime_of_passed {s : State} {tk : Ticket} {before rest : List Ticket}
    (listed : s.fs.tickets = before ++ tk :: rest) (below : ticketBelow s.ag.base s tk = true)
    (first : ∀ u ∈ before, ¬ticketBelow s.ag.base s u = true) :
    freerunRetime s = freerunRetime (fire ⟨true, false, some tk.cycle, some s.ag.base⟩ tk.entry tk.point
      { s with fs := { s.fs with tickets := before ++ rest } }) := by
  let b := s.ag.base
  let t := fire ⟨true, false, some tk.cycle, some b⟩ tk.entry tk.point
    { s with fs := { s.fs with tickets := before ++ rest } }
  have frame : FiringFrame { s with fs := { s.fs with tickets := before ++ rest } } t := fire_frame ..
  have found : s.fs.tickets.find? (ticketBelow b s) = some tk := by
    rw [listed, List.find?_append, List.find?_eq_none.2 first, Option.none_or, List.find?_cons_of_pos below]
  have left : s.fs.tickets.erase tk = before ++ rest := by
    rw [listed, List.erase_append_right _ fun member => first tk member below, List.erase_cons_head]
  have more : afterPassed b s = some t := by
    rw [afterPassed, found, Option.map_some, left]
  have fired : firePassed b s.fs.tickets.length s = firePassed b t.fs.tickets.length t :=
    loop_turn (size := fun u => u.fs.tickets.length) (fun _ => rfl) (firePassed_turn b) (afterPassed_shorter b) more
  have base : t.ag.base = b := congrArg AngleGenerator.base frame.ag
  have tooth_end : t.toothEnd = s.toothEnd := by rw [State.toothEnd, frame.cc, frame.ag]; rfl
  have period : t.cc.active.freeRunPeriod = s.cc.active.freeRunPeriod := by rw [frame.cc]
  change _ = freerunRetime t
  simp only [freerunRetime, base, tooth_end, period]
  exact congrArg (fun u => enumerate b s.toothEnd (retimeTickets b s.toothEnd s.cc.active.freeRunPeriod u)) fired

/-! ### The tickets that are left -/

/-- A ticket's due time in the free-run period, from the new base angle b (R128). -/
def redue (b ends period : Nat) (s : State) (tk : Ticket) : Ticket :=
  { tk with due := s.stamp
      + BitVec.ofNat 24 (period * ((pointAngleOf s.ctc.entries[tk.entry] tk.point).getD 0 - b) / (ends - b)) }

theorem retimed_eq_redue {b ends period : Nat} {s : State} {tk : Ticket}
    (angle : pointAngleOf s.ctc.entries[tk.entry] tk.point ≠ none) : retimed b ends period s tk = redue b ends period s tk := by
  obtain ⟨a, angle⟩ := Option.ne_none_iff_exists'.1 angle
  rw [redue, retimed, pointAngle_eq, angle]
  rfl

/-- Tickets joined one after another to an ordered list are all there, in their order. -/
theorem foldl_insertTicket (now : Stamp) (tickets l : List Ticket) :
    (tickets.foldl (fun l t => insertTicket now t l) l).Perm (tickets ++ l)
      ∧ (ticketsOrdered now l → ticketsOrdered now (tickets.foldl (fun l t => insertTicket now t l) l)) := by
  induction tickets generalizing l with
  | nil => exact ⟨.refl l, id⟩
  | cons tk rest ih =>
      obtain ⟨perm, ordered⟩ := ih (insertTicket now tk l)
      refine ⟨?_, fun before => ordered (ticketsOrdered_insertTicket tk before)⟩
      calc rest.foldl (fun l t => insertTicket now t l) (insertTicket now tk l)
        List.Perm _ (rest ++ insertTicket now tk l) := perm
        List.Perm _ (rest ++ tk :: l) := (insertTicket_perm now tk l).append_left rest
        List.Perm _ (tk :: (rest ++ l)) := List.perm_middle

/-- R128: the list of the tickets with their new due times. -/
def retimedList (b ends period : Nat) (s : State) : List Ticket :=
  (s.fs.tickets.map (redue b ends period s)).foldl (fun l t => insertTicket s.stamp t l) []

theorem retimeTickets_eq {b ends period : Nat} {s : State}
    (angles : ∀ u ∈ s.fs.tickets, pointAngleOf s.ctc.entries[u.entry] u.point ≠ none) :
    retimeTickets b ends period s = { s with fs := { s.fs with tickets := retimedList b ends period s } } := by
  have same : s.fs.tickets.map (redue b ends period s) = s.fs.tickets.map (retimed b ends period s) :=
    List.map_congr_left fun u member => (retimed_eq_redue (angles u member)).symm
  rw [retimeTickets, retimedList, same, List.foldl_map]

/-- Settles O24: the first passed ticket is one turn of the loop; with none passed the list is made anew. -/
theorem freerunOnRetimesTheTooth : Obligations.FreerunOnRetimesTheTooth := by
  unfold Obligations.FreerunOnRetimesTheTooth
  intro s angles
  refine ⟨_, _, rfl, rfl, fun tk before rest a listed angle passed reached => ?_, fun reached => ?_⟩
  · exact freerunRetime_of_passed listed ((ticketBelow_iff ..).2 ⟨a, angle, passed⟩) fun u member =>
      not_ticketBelow_of_reached (reached u member)
  · obtain ⟨perm, ordered⟩ := foldl_insertTicket s.stamp
      (s.fs.tickets.map (redue s.ag.base s.toothEnd s.cc.active.freeRunPeriod s)) []
    rw [List.append_nil] at perm
    refine ⟨retimedList s.ag.base s.toothEnd s.cc.active.freeRunPeriod s, perm, ordered List.Pairwise.nil, ?_⟩
    have none : s.fs.tickets.find? (ticketBelow s.ag.base s) = none :=
      List.find?_eq_none.2 fun u member => not_ticketBelow_of_reached (reached u member)
    simp only [freerunRetime, firePassed_of_none none, retimeTickets_eq angles]
    rfl

end Sys2Proof.Proofs
end

section
/-! PROOFS. The loss teardown (R125): what its four parts leave before the pending commit is applied. -/

namespace Sys2Proof.Proofs

open Sys2Proof Sys2Proof.Machine Sys2Proof.Safety

/-! ### What the loss does to an entry and to a track (R91, R120, R143) -/

/-- An entry after the loss: its window closed, a spent open one HELD, an ARMING one LIVE. -/
def lostEntry (e : Entry) : Entry :=
  { e with
    windowOpen := false
    state :=
      if (e.windowOpen && e.spent) = true then .held
      else if e.state = .arming then .live
      else e.state }

/-- The forced close and then the activation of one entry. -/
theorem activated_closed_eq_lostEntry (e : Entry) :
    (let closed := if e.windowOpen = true then closedEntry true e else e
     if closed.state = .arming then { closed with state := .live } else closed) = lostEntry e := by
  obtain ⟨state, _, _, windowOpen, spent, _⟩ := e
  cases windowOpen with
  | false => cases state <;> rfl
  | true =>
      cases spent with
      | false => cases state <;> rfl
      | true => rfl

/-- A track after the loss, from which so many windows are taken. -/
def lostTrack (windows : Nat) (k : Track) : Track :=
  if k.owner = none ∨ k.keepOnLoss = true then { k with windowCount := k.windowCount - windows }
  else { k with windowCount := k.windowCount - windows, latch := k.safeActive, pulse := none }

theorem onLoss_eq_lostTrack (windows : Nat) (k : Track) :
    Track.onLoss { k with windowCount := k.windowCount - windows } = lostTrack windows k := by
  simp only [Track.onLoss, lostTrack, Bool.or_eq_true, Option.isNone_iff_eq_none]

/-! ### The four parts together (R125) -/

/-- The state after the teardown, before the pending commit is applied. -/
def tornDown (s : State) : State :=
  { s with
    er := (postAll (forcedCloses true (fun _ => true) s) s).er
    fs := { s.fs with tickets := [], deferred := [], deferredCycle := none }
    ctc := { s.ctc with entries := Vector.ofFn fun i => lostEntry s.ctc.entries[i] }
    td := Vector.ofFn fun k => lostTrack (windowsOn (fun _ => true) s k) s.td[k] }

theorem tornDown_entry (s : State) (i : EntryNo) : (tornDown s).ctc.entries[i] = lostEntry s.ctc.entries[i] := by
  unfold tornDown
  exact ofFn_at _ i

theorem tornDown_track (s : State) (k : TrackNo) :
    (tornDown s).td[k] = lostTrack (windowsOn (fun _ => true) s k) s.td[k] := by
  unfold tornDown
  exact ofFn_at _ k

/-- Its closes are posted and change nothing but ER. -/
theorem tornDown_eq_postAll (s : State) :
    { postAll (forcedCloses true (fun _ => true) s) s with
      fs := { s.fs with tickets := [], deferred := [], deferredCycle := none }
      ctc := { s.ctc with entries := Vector.ofFn fun i => lostEntry s.ctc.entries[i] }
      td := Vector.ofFn fun k => lostTrack (windowsOn (fun _ => true) s k) s.td[k] } = tornDown s := by
  rw [tornDown, postAll_eq]

theorem forceCloseAll_discardLists (s : State) :
    forceCloseAll (discardLists s) = { postAll (forcedCloses true (fun _ => true) s) s with
      fs := { s.fs with tickets := [], deferred := [], deferredCycle := none }
      ctc := { s.ctc with
        entries := Vector.ofFn fun i =>
          if s.ctc.entries[i].windowOpen = true then closedEntry true s.ctc.entries[i] else s.ctc.entries[i] }
      td := Vector.ofFn fun k =>
        { s.td[k] with windowCount := s.td[k].windowCount - windowsOn (fun _ => true) s k } } := by
  rw [forceCloseAll_eq, closedWindows_openAmong, postAll_eq, postAll_eq]
  simp only [Bool.true_and]
  rfl

theorem teardownParts_eq (s : State) : activateArming (applyOnLoss (forceCloseAll (discardLists s))) = tornDown s := by
  rw [forceCloseAll_discardLists, ← tornDown_eq_postAll]
  simp only [activateArming, applyOnLoss, vall, ofFn_at, onLoss_eq_lostTrack, activated_closed_eq_lostEntry]

theorem teardown_eq_applyPending (s : State) : teardown applyPending s = applyPending (tornDown s) := by
  rw [teardown, teardownParts_eq]

theorem teardown_eq_tornDown {s : State} (commitFree : s.cc.pendingRecord = none) :
    teardown applyPending s = tornDown s := by
  rw [teardown_of_commitFree commitFree, teardownParts_eq]

/-- Settles O29: the four parts leave the state torn down, and the fifth applies what waits. -/
theorem lossTeardownLeavesNothingOpen : Obligations.LossTeardownLeavesNothingOpen := by
  unfold Obligations.LossTeardownLeavesNothingOpen
  exact fun s => ⟨tornDown s, (tornDown_eq_postAll s).symm, teardown_eq_applyPending s, teardown_eq_tornDown⟩

end Sys2Proof.Proofs
end

section
/-! PROOFS. The holder's FREERUN_OFF, RESTART_REFERENCE and CLEAR_COUNTERS (R72, R73, R78). -/

namespace Sys2Proof.Proofs

open Sys2Proof Sys2Proof.Machine Sys2Proof.Safety

/-! ### From FREERUN to SEARCH, and on to STOPPED where the timer is expired (R58, R68, R72, R125) -/

theorem lockCaused_of_set {er : Vector EventPort 4} (set : ∀ p : Port, er[p].lockCause = true) :
    lockCaused true er = er := by
  refine vector_ext_at fun p => ?_
  rw [lockCaused_at, Bool.or_true, ← set p]

/-- Delivery in the teardown leaves the LOCK cause that the transition has set. -/
theorem tornDown_searched_lockCause (s : State) (p : Port) : (tornDown (searched s)).er[p].lockCause = true := by
  obtain ⟨-, -, -, -, lockCause, -⟩ := (postAll_frame (forcedCloses true (fun _ => true) (searched s)) (searched s)).ports p
  calc (tornDown (searched s)).er[p].lockCause
      _ = (postAll (forcedCloses true (fun _ => true) (searched s)) (searched s)).er[p].lockCause := by rw [tornDown]
      _ = (searched s).er[p].lockCause := lockCause
      _ = true := by simp only [searched, lockCaused_at, Bool.or_true]

/-- R58: the way on to STOPPED finds the effects of the entry into SEARCH done, so that it changes the lock state alone. -/
theorem onToStopped_tornDown_searched (s : State) :
    onToStopped (tornDown (searched s)) =
      { tornDown (searched s) with ls := { (searched s).ls with lock := .stopped } } := by
  rw [onToStopped, lockCaused_of_set (tornDown_searched_lockCause s)]
  rfl

theorem searched_standstill_expired (s : State) : (searched s).ls.standstill = .expired ↔ s.ls.standstill = .expired := by
  simp only [searched, toSearch]
  cases s.ls.standstill <;> simp

theorem goOnToStopped_tornDown_searched (s : State) :
    goOnToStopped (tornDown (searched s)) =
      { tornDown (searched s) with
        ls := { (searched s).ls with lock := if s.ls.standstill = .expired then .stopped else .search } } := by
  have low : (tornDown (searched s)).ls.lock = .search := rfl
  have timer : (tornDown (searched s)).ls.standstill = .expired ↔ s.ls.standstill = .expired :=
    searched_standstill_expired s
  rw [goOnToStopped_eq]
  by_cases expired : s.ls.standstill = .expired
  · rw [if_pos ⟨.inl low, timer.2 expired⟩, if_pos expired, onToStopped_tornDown_searched]
  · rw [if_neg fun h => expired (timer.1 h.2), if_neg expired]
    rfl

theorem inFiring_of_freerun {s : State} (freerun : s.ls.lock = .freerun) : s.inFiring = true := by
  simp only [State.inFiring, LockSupervisor.inFiring, freerun]

/-- R72: FREERUN_OFF leaves the firing set through the teardown. -/
theorem enterSearch_of_freerun (ap : State → State) {s : State} (freerun : s.ls.lock = .freerun) :
    enterSearch ap s = goOnToStopped (teardown ap (searched s)) := by
  rw [enterSearch_eq ap (by rw [freerun]; decide), departFrom_of_inside ap (inFiring_of_freerun freerun)]

/-! ### The restart (R73) -/

/-- The restart's effects, before the teardown. -/
def restarted (s : State) : State :=
  { s with
    ls := { s.ls with
      lock := .stopped
      settle := 0
      clean := 0
      noisy := 0
      indexMiss := 0
      synthInCycle := false
      standstill := .absent
      lockMarks := if s.ls.lock = .stopped then s.ls.lockMarks else Vector.replicate 4 false }
    ag := { invalidAngle s.ag with synthSinceReal := false }
    pt := { s.pt with history := [], lastEdge := none, gap := .absent }
    eq := { s.eq with cycleNoise := 0, window := none }
    er := lockCaused (s.ls.lock != .stopped) s.er }

theorem restart_eq (ap : State → State) (s : State) :
    restart ap s = if s.inFiring = true then teardown ap (restarted s) else restarted s := by
  rw [restart, fall_eq, departFrom, bne_comm, restarted]
  simp only [eq_comm (a := LockState.stopped)]
  rfl

/-- R73: where no commit waits, the restart's effects stand after the teardown. -/
theorem restart_frame {s : State} (free : s.inFiring = false ∨ s.cc.pendingRecord = none) :
    FiringFrame (restarted s) (restart applyPending s) := by
  rw [restart_eq]
  split
  · next inside =>
      refine teardown_frame (s := restarted s) (free.resolve_left ?_)
      rw [inside]
      decide
  · exact .refl _

theorem restart_leaves_nothing {s : State} (inside : s.inFiring = true) (commitFree : s.cc.pendingRecord = none) :
    (restart applyPending s).fs.tickets = [] ∧ (restart applyPending s).fs.deferred = []
      ∧ ∀ i : EntryNo, (restart applyPending s).ctc.entries[i].windowOpen = false := by
  rw [restart_eq, if_pos inside]
  exact teardown_leaves_nothing (s := restarted s) commitFree

/-! ### The answers -/

section Holder

variable {p : Port} {s : State}

theorem answers_freerunOff_refused (holds : s.cc.holder = some p) (other : s.ls.lock ≠ .freerun) :
    Answers (.freerunOff p) p [0x15] [0x04] s s :=
  answers_of_refusal (act := actFreerunOff p) .state rfl rfl ((holderOnly_holder _ holds).trans (if_neg other))

theorem answers_freerunOff (holds : s.cc.holder = some p) (freerun : s.ls.lock = .freerun) :
    Answers (.freerunOff p) p [0x15] [0x00] s (enterSearch applyPending s) := by
  have acts : actFreerunOff p s = (enterSearch applyPending s, Reply.bare .ok) :=
    (holderOnly_holder _ holds).trans (if_pos freerun)
  exact answers_of (act := actFreerunOff p) rfl rfl (by rw [acts]) (by rw [acts]; rfl)

theorem answers_restartReference (holds : s.cc.holder = some p) :
    Answers (.restartReference p) p [0x16] [0x00] s (restart applyPending s) := by
  have acts : actRestartReference p s = (restart applyPending s, Reply.bare .ok) := holderOnly_holder _ holds
  exact answers_of (act := actRestartReference p) rfl rfl (by rw [acts]) (by rw [acts]; rfl)

theorem answers_clearCounters (holds : s.cc.holder = some p) :
    Answers (.clearCounters p) p [0x17] [0x00] s { s with
      eq := { s.eq with totalNoise := 0 }
      ag := { s.ag with totalMisses := 0, lateTeeth := 0, indexNoise := 0 }
      ls := { s.ls with indexErrors := 0 }
      pt := { s.pt with speedSteps := 0 }
      fs := { s.fs with overflows := 0 } } :=
  answers_of (act := actClearCounters p) rfl rfl (by rw [actClearCounters, holderOnly_holder _ holds])
    (by rw [actClearCounters, holderOnly_holder _ holds]; rfl)

end Holder

/-- Settles O53: the answers, and what the teardown leaves of the two departures from the firing set. -/
theorem holderLeavesRestartsAndClears : Obligations.HolderLeavesRestartsAndClears := by
  unfold Obligations.HolderLeavesRestartsAndClears
  intro p s holds
  refine ⟨answers_freerunOff_refused holds, fun freerun => ?_, ?_, answers_clearCounters holds⟩
  · have enters := enterSearch_of_freerun applyPending freerun
    have frame := closed_reference.enterSearch s
    rw [enters] at frame
    refine ⟨goOnToStopped (teardown applyPending (searched s)), searched s, teardown applyPending (searched s), rfl, rfl,
      goOnToStopped_eq _, enters ▸ answers_freerunOff holds freerun, fun commitFree => ?_, frame.resetLow, frame.pi,
      frame.stamp, frame.pending⟩
    rw [teardown_eq_tornDown (s := searched s) commitFree, goOnToStopped_tornDown_searched] at frame ⊢
    refine ⟨rfl, rfl, rfl, rfl, ?_, rfl, fun i => ?_, frame.owned, frame.quota, fun k => ?_, rfl, rfl⟩
    · simp only [State.inFiring, LockSupervisor.inFiring]
      by_cases expired : s.ls.standstill = .expired
      · simp only [if_pos expired]
      · simp only [if_neg expired]
    · exact tornDown_entry (searched s) i
    · exact tornDown_track (searched s) k
  · have frame := closed_reference.restart s
    refine ⟨restart applyPending s, restarted s, rfl, restart_eq applyPending s, answers_restartReference holds,
      fun free => ?_, frame.resetLow, frame.pi, frame.stamp, frame.pending⟩
    have kept := restart_frame free
    refine ⟨kept.ls, kept.ag, kept.pt, kept.eq, kept.cc, fun inside => restart_leaves_nothing inside (free.resolve_left ?_)⟩
    rw [inside]
    decide

end Sys2Proof.Proofs
end

section
/-! PROOFS. What the enumeration of a tooth has done with every point of it (R98, R110, R111, R120): a point that is placed
stays placed while its entry is LIVE. -/

namespace Sys2Proof.Proofs

open Sys2Proof Sys2Proof.Machine Sys2Proof.Safety

/-! ### What firing leaves of the points of a LIVE entry (R120) -/

/-- From s to t no entry becomes LIVE, no taken mark or spent condition is lost, and no point of an entry that is LIVE in
t has left the lists. -/
structure KeepsPoints (s t : State) : Prop where
  cycleSeen : t.fs.cycleSeen = s.fs.cycleSeen
  taken : ∀ i pt, isTaken s i pt → isTaken t i pt
  spent : ∀ i : EntryNo, s.ctc.entries[i].spent = true → t.ctc.entries[i].spent = true
  live : ∀ i : EntryNo, t.ctc.entries[i].state = .live → s.ctc.entries[i].state = .live
  listed : ∀ (i : EntryNo) (pt : Point), t.ctc.entries[i].state = .live → isListed s i pt → isListed t i pt

theorem KeepsPoints.trans {s t u : State} (a : KeepsPoints s t) (b : KeepsPoints t u) : KeepsPoints s u where
  cycleSeen := b.cycleSeen.trans a.cycleSeen
  taken i pt h := b.taken i pt (a.taken i pt h)
  spent i h := b.spent i (a.spent i h)
  live i h := a.live i (b.live i h)
  listed i pt h listed := b.listed i pt h (a.listed i pt (b.live i h) listed)

/-- A change of the entries alone that keeps states and spent conditions. -/
theorem KeepsPoints.of_fs {s t : State} (fs : t.fs = s.fs)
    (entries : ∀ i : EntryNo, t.ctc.entries[i].state = s.ctc.entries[i].state
      ∧ (s.ctc.entries[i].spent = true → t.ctc.entries[i].spent = true)) : KeepsPoints s t where
  cycleSeen := by rw [fs]
  taken i pt h := by
    rw [isTaken_iff] at h ⊢
    rwa [fs]
  spent i := (entries i).2
  live i h := (entries i).1 ▸ h
  listed i pt _ h := by rwa [isListed, fs]

theorem KeepsPoints.of_eq {s t : State} (fs : t.fs = s.fs) (ctc : t.ctc = s.ctc) : KeepsPoints s t :=
  .of_fs fs fun _ => by rw [ctc]; exact ⟨rfl, id⟩

theorem KeepsPoints.refl (s : State) : KeepsPoints s s := .of_eq rfl rfl

theorem modEntry_keepsPoints {i : EntryNo} {f : Entry → Entry} (state : ∀ e, (f e).state = e.state)
    (spent : ∀ e, e.spent = true → (f e).spent = true) (s : State) : KeepsPoints s (s.modEntry i f) :=
  .of_fs rfl fun j => by
    rw [State.modEntry_ctc_entries, vmod_at]
    split
    · exact ⟨state _, spent _⟩
    · exact ⟨rfl, id⟩

/-- Points that join the lists leave those that are there. -/
theorem KeepsPoints.of_lists {s : State} {fs : FiringScheduler} (cycleSeen : fs.cycleSeen = s.fs.cycleSeen)
    (taken : fs.taken = s.fs.taken) (tickets : s.fs.tickets ⊆ fs.tickets) (deferred : s.fs.deferred ⊆ fs.deferred) :
    KeepsPoints s { s with fs := fs } where
  cycleSeen := cycleSeen
  taken i pt h := by
    simp only [isTaken, taken]
    exact h
  spent _ := id
  live _ := id
  listed i pt _ h := by
    rcases h with ⟨tk, member, point⟩ | ⟨d, member, point⟩
    · exact .inl ⟨tk, tickets member, point⟩
    · exact .inr ⟨d, deferred member, point⟩

/-- The points that the spent condition takes off the lists are those of an entry that it makes HELD. -/
theorem spend_keepsPoints (o : Occasion) (i : EntryNo) (s : State) : KeepsPoints s (spend o i s) where
  cycleSeen := by rw [spend_fs, removePoints_fs_cycleSeen]
  taken j pt h := by
    simp only [isTaken, spend_fs, removePoints_fs_taken]
    exact h
  spent j h := by
    rw [spend_entry]
    split
    · rfl
    · exact h
  live j h := by
    rw [spend_entry] at h
    split at h
    · exact absurd h (by decide : EntryState.held ≠ .live)
    · exact h
  listed j pt h listed := by
    have other : j ≠ i := by
      rintro rfl
      rw [spend_entry, if_pos rfl] at h
      exact absurd h (by decide : EntryState.held ≠ .live)
    simp only [isListed, spend_fs, removePoints_fs_tickets, removePoints_fs_deferred, List.mem_filter, decide_eq_true_eq]
    rcases listed with ⟨tk, member, rfl, point⟩ | ⟨d, member, rfl, point⟩
    · exact .inl ⟨tk, ⟨member, other⟩, rfl, point⟩
    · exact .inr ⟨d, ⟨member, other⟩, rfl, point⟩

theorem markTaken_of_same (i : EntryNo) (pt : Point) (s : State) : isTaken (markTaken i pt s) i pt := by
  rw [isTaken_iff, markTaken_fs_taken, vmod_self]
  cases pt <;> rfl

theorem of_setFor {m : TakenMarks} {x : Point} (pt : Point) (set : m.of x = true) : (m.setFor pt).of x = true := by
  cases pt <;> cases x <;> simp_all [TakenMarks.of, TakenMarks.setFor]

theorem markTaken_keepsPoints (i : EntryNo) (pt : Point) (s : State) : KeepsPoints s (markTaken i pt s) where
  cycleSeen := rfl
  taken j x h := by
    rw [isTaken_iff] at h ⊢
    rw [markTaken_fs_taken, vmod_at]
    split
    · exact of_setFor pt h
    · exact h
  spent _ := id
  live _ := id
  listed _ _ _ := id

theorem refuseStart_keepsPoints (o : Occasion) (i : EntryNo) (s : State) : KeepsPoints s (refuseStart o i s) := by
  unfold refuseStart
  split
  · exact .of_eq (postEntry_fs ..) (postEntry_ctc ..)
  · exact .refl s

theorem firePointStart_keepsPoints (o : Occasion) (i : EntryNo) (s : State) : KeepsPoints s (firePointStart o i s) := by
  have acted : KeepsPoints s (postEntry .fire o i (startAction s.ctc.entries[i].image s)) :=
    .of_eq (by rw [postEntry_fs, startAction_fs]) (by rw [postEntry_ctc, startAction_ctc])
  have counted := acted.trans (modEntry_keepsPoints (i := i) (f := Entry.countStart o) (fun _ => rfl) (fun _ => id) _)
  unfold firePointStart
  simp only
  split
  · split
    · exact counted.trans (spend_keepsPoints o i _)
    · exact counted
  · exact refuseStart_keepsPoints o i s

theorem fireWindowStart_keepsPoints (o : Occasion) (i : EntryNo) (s : State) : KeepsPoints s (fireWindowStart o i s) := by
  have isOpen := modEntry_keepsPoints (i := i) (f := fun e => { e with windowOpen := true }) (fun _ => rfl) (fun _ => id) s
  have told : KeepsPoints s (postEntry .opened o i (onTrack s.ctc.entries[i].image.track Track.windowUp
      (s.modEntry i fun e => { e with windowOpen := true }))) :=
    isOpen.trans (.of_eq (by rw [postEntry_fs, onTrack_fs]) (by rw [postEntry_ctc, onTrack_ctc]))
  unfold fireWindowStart
  simp only
  split
  · exact .refl s
  · split
    · refine told.trans (modEntry_keepsPoints ?_ ?_ _)
      · exact fun _ => rfl
      · exact fun _ spent => Bool.or_eq_true_iff.2 (.inl spent)
    · exact refuseStart_keepsPoints o i s

theorem closeWindow_keepsPoints (o : Occasion) (i : EntryNo) (s : State) : KeepsPoints s (closeWindow o i s) :=
  .of_fs (closeWindow_fs ..) fun j => by
    rw [closeWindow_entry]
    split <;> exact ⟨rfl, id⟩

theorem fireWindowEnd_keepsPoints (o : Occasion) (i : EntryNo) (s : State) : KeepsPoints s (fireWindowEnd o i s) := by
  unfold fireWindowEnd
  split
  · split
    · exact (closeWindow_keepsPoints o i s).trans (spend_keepsPoints o i _)
    · exact closeWindow_keepsPoints o i s
  · exact .refl s

/-- What follows the taken mark when a point is fired. -/
theorem fire_keepsPoints_of_marked (o : Occasion) (i : EntryNo) (pt : Point) (s : State) :
    KeepsPoints (markTaken i pt s) (fire o i pt s) := by
  unfold fire
  simp only
  split
  · split
    · exact fireWindowStart_keepsPoints o i _
    · exact fireWindowEnd_keepsPoints o i _
    · exact firePointStart_keepsPoints o i _
    · exact firePointStart_keepsPoints o i _
    · exact firePointStart_keepsPoints o i _
    · exact firePointStart_keepsPoints o i _
    · exact .refl _
    · exact .refl _
    · exact .refl _
    · exact .refl _
  · exact .refl _

theorem fire_keepsPoints (o : Occasion) (i : EntryNo) (pt : Point) (s : State) : KeepsPoints s (fire o i pt s) :=
  (markTaken_keepsPoints i pt s).trans (fire_keepsPoints_of_marked o i pt s)

theorem fire_taken (o : Occasion) (i : EntryNo) (pt : Point) (s : State) : isTaken (fire o i pt s) i pt :=
  (fire_keepsPoints_of_marked o i pt s).taken i pt (markTaken_of_same i pt s)

/-! ### What one point's enumeration can do (R111, R113) -/

/-- The ticket of a point at angle a past the tooth's start b, placed now (R111). -/
def ticketOf (b ends period : Nat) (i : EntryNo) (pt : Point) (a : Nat) (s : State) : Ticket :=
  ⟨i, pt, s.stamp + BitVec.ofNat 24 (period * (a - b) / (ends - b)), s.ag.cycle⟩

/-- A point's enumeration leaves everything, fires the point, places its ticket, or defers it. -/
theorem enumeratePoint_cases (b ends : Nat) (period : Option Nat) (i : EntryNo) (pt : Point) (s : State) :
    (enumeratePoint b ends period i pt s = s
        ∧ ∀ a, pointAngleOf s.ctc.entries[i] pt = some a → ¬pointOpen b ends i pt a s = true)
      ∨ enumeratePoint b ends period i pt s = fire ⟨false, false, some s.ag.cycle, s.angle⟩ i pt s
      ∨ ∃ a, pointAngleOf s.ctc.entries[i] pt = some a ∧ b < a ∧ a < ends
        ∧ ((∃ p, period = some p ∧ s.fs.tickets.length < 24 ∧ enumeratePoint b ends period i pt s =
              { s with fs := { s.fs with tickets := insertTicket s.stamp (ticketOf b ends p i pt a s) s.fs.tickets } })
          ∨ enumeratePoint b ends period i pt s = { s with fs := { s.fs with
              deferred := insertDeferred ⟨i, pt⟩ s.fs.deferred
              deferredCycle := if s.fs.deferred = [] then some s.ag.cycle else s.fs.deferredCycle
              overflows := if period = none then s.fs.overflows else min (s.fs.overflows + 1) 65535 } }) := by
  cases angle : pointAngleOf s.ctc.entries[i] pt with
  | none => exact .inl ⟨enumeratePoint_of_no_angle angle, fun _ other => absurd other (Option.some_ne_none _).symm⟩
  | some a =>
      by_cases isOpen : pointOpen b ends i pt a s = true
      · obtain ⟨above, below, -⟩ := (pointOpen_iff ..).1 isOpen
        rcases Nat.eq_or_lt_of_le above with rfl | past
        · exact .inr (.inl (enumeratePoint_at_start angle isOpen))
        · refine .inr (.inr ⟨a, rfl, past, below, ?_⟩)
          by_cases noTicket : period = none ∨ 24 ≤ s.fs.tickets.length
          · exact .inr (enumeratePoint_of_no_ticket angle isOpen past noTicket)
          · obtain ⟨timed, room⟩ := not_or.1 noTicket
            obtain ⟨p, rfl⟩ := Option.ne_none_iff_exists'.1 timed
            exact .inl ⟨p, rfl, Nat.not_le.1 room,
              (enumeratePoint_past_start angle isOpen past).trans (addTicket_of_room (Nat.not_le.1 room))⟩
      · refine .inl ⟨enumeratePoint_of_not_open angle isOpen, ?_⟩
        intro x same
        rwa [← Option.some.inj same]

theorem subset_insertTicket (now : Stamp) (tk : Ticket) (l : List Ticket) : l ⊆ insertTicket now tk l :=
  fun _ member => (mem_insertTicket ..).2 (.inr member)

theorem mem_insertDeferred (d u : DeferredPoint) (l : List DeferredPoint) : u ∈ insertDeferred d l ↔ u = d ∨ u ∈ l := by
  simpa using (insertDeferred_perm d l).mem_iff

theorem subset_insertDeferred (d : DeferredPoint) (l : List DeferredPoint) : l ⊆ insertDeferred d l :=
  fun _ member => (mem_insertDeferred ..).2 (.inr member)

theorem enumeratePoint_keepsPoints (b ends : Nat) (period : Option Nat) (i : EntryNo) (pt : Point) (s : State) :
    KeepsPoints s (enumeratePoint b ends period i pt s) := by
  rcases enumeratePoint_cases b ends period i pt s with ⟨same, -⟩ | fires | ⟨a, -, -, -, ⟨p, -, -, places⟩ | defers⟩
  · rw [same]
    exact .refl s
  · rw [fires]
    exact fire_keepsPoints ..
  · rw [places]
    exact .of_lists rfl rfl (subset_insertTicket ..) (List.Subset.refl _)
  · rw [defers]
    exact .of_lists rfl rfl (List.Subset.refl _) (subset_insertDeferred ..)

theorem enumerateEntry_keepsPoints (b ends : Nat) (period : Option Nat) (s : State) (i : EntryNo) :
    KeepsPoints s (enumerateEntry b ends period s i) := by
  unfold enumerateEntry
  split
  · exact (enumeratePoint_keepsPoints ..).trans (enumeratePoint_keepsPoints ..)
  · exact .refl s

/-! ### Every point of the tooth is placed (R110, R111) -/

/-- The point is taken, on a list, or the START of a spent WINDOW. -/
def Placed (s : State) (i : EntryNo) (pt : Point) : Prop :=
  isTaken s i pt ∨ isListed s i pt ∨ isSpentStart s.ctc.entries[i] pt

/-- Across the firing frame an entry keeps all of its image but the count. -/
theorem image_of_frame {s t : State} (frame : FiringFrame s t) (i : EntryNo) :
    ∃ count, t.ctc.entries[i].image = { s.ctc.entries[i].image with count := count } := by
  obtain ⟨-, same⟩ := frame.entries i
  exact ⟨t.ctc.entries[i].image.count,
    congrArg (fun im : EntryImage => { im with count := t.ctc.entries[i].image.count }) same⟩

theorem pointAngleOf_of_frame {s t : State} (frame : FiringFrame s t) (i : EntryNo) (pt : Point) :
    pointAngleOf t.ctc.entries[i] pt = pointAngleOf s.ctc.entries[i] pt := by
  obtain ⟨count, image⟩ := image_of_frame frame i
  cases pt <;> simp only [pointAngleOf, image]

theorem Placed.of_keepsPoints {s t : State} {i : EntryNo} {pt : Point} (frame : FiringFrame s t) (keeps : KeepsPoints s t)
    (live : t.ctc.entries[i].state = .live) (placed : Placed s i pt) : Placed t i pt := by
  obtain ⟨count, image⟩ := image_of_frame frame i
  rcases placed with taken | listed | ⟨start, window, spent⟩
  · exact .inl (keeps.taken i pt taken)
  · exact .inr (.inl (keeps.listed i pt live listed))
  · exact .inr (.inr ⟨start, by rw [image]; exact window, keeps.spent i spent⟩)

theorem enumeratePoint_places {b ends : Nat} {period : Option Nat} {i : EntryNo} {pt : Point} {s : State} {a : Nat}
    (angle : pointAngleOf s.ctc.entries[i] pt = some a) (above : b ≤ a) (below : a < ends) :
    Placed (enumeratePoint b ends period i pt s) i pt := by
  rcases enumeratePoint_cases b ends period i pt s with ⟨same, shut⟩ | fires | ⟨x, -, -, -, ⟨p, -, -, places⟩ | defers⟩
  · have held := shut a angle
    rw [pointOpen_iff] at held
    rw [same, Placed]
    tauto
  · rw [fires]
    exact .inl (fire_taken ..)
  · rw [places]
    exact .inr (.inl (.inl ⟨_, (mem_insertTicket ..).2 (.inl rfl), rfl, rfl⟩))
  · rw [defers]
    exact .inr (.inl (.inr ⟨_, (mem_insertDeferred ..).2 (.inl rfl), rfl, rfl⟩))

/-- If entry i may fire, then each of its points from b to the tooth's end is placed. -/
def Covered (b ends : Nat) (s : State) (i : EntryNo) : Prop :=
  ∀ pt a, s.ctc.entries[i].state = .live → (s.ls.lock = .holdover → s.ctc.entries[i].image.flags.pause = false) →
    pointAngleOf s.ctc.entries[i] pt = some a → b ≤ a → a < ends → Placed s i pt

theorem Covered.of_keepsPoints {b ends : Nat} {s t : State} {i : EntryNo} (frame : FiringFrame s t)
    (keeps : KeepsPoints s t) (covered : Covered b ends s i) : Covered b ends t i := by
  intro pt a live unpaused angle above below
  obtain ⟨count, image⟩ := image_of_frame frame i
  rw [frame.ls, image] at unpaused
  rw [pointAngleOf_of_frame frame] at angle
  exact (covered pt a (keeps.live i live) unpaused angle above below).of_keepsPoints frame keeps live

/-- R111: one entry's enumeration, END before START. -/
theorem enumerateEntry_covers (b ends : Nat) (period : Option Nat) (s : State) (i : EntryNo) :
    Covered b ends (enumerateEntry b ends period s i) i := by
  by_cases may : enumerable s s.ctc.entries[i] = true
  · let u := enumeratePoint b ends period i .stop s
    have first : FiringFrame s u := enumeratePoint_frame ..
    have second : FiringFrame u (enumeratePoint b ends period i .start u) := enumeratePoint_frame ..
    rw [enumerateEntry, if_pos may]
    intro pt a live unpaused angle above below
    rw [pointAngleOf_of_frame second] at angle
    cases pt with
    | start => exact enumeratePoint_places angle above below
    | stop =>
        rw [pointAngleOf_of_frame first] at angle
        exact (enumeratePoint_places angle above below).of_keepsPoints second (enumeratePoint_keepsPoints ..) live
  · rw [enumerateEntry, if_neg may]
    intro pt a live unpaused
    exact absurd ((enumerable_iff ..).2 ⟨live, unpaused⟩) may

/-- R110: an entry that has had its turn stays covered through the turns of the others. -/
theorem foldl_enumerateEntry_covers {b ends : Nat} {period : Option Nat} {l : List EntryNo} {s : State} {i : EntryNo}
    (reached : i ∈ l ∨ Covered b ends s i) : Covered b ends (l.foldl (enumerateEntry b ends period) s) i := by
  induction l generalizing s with
  | nil => exact reached.resolve_left (List.not_mem_nil)
  | cons j rest ih =>
      refine ih ?_
      rcases reached with member | covered
      · rcases List.mem_cons.1 member with rfl | later
        · exact .inr (enumerateEntry_covers b ends period s i)
        · exact .inl later
      · exact .inr (covered.of_keepsPoints (enumerateEntry_frame ..) (enumerateEntry_keepsPoints ..))

theorem enumerate_covers (b ends : Nat) (s : State) (i : EntryNo) : Covered b ends (enumerate b ends s) i :=
  foldl_enumerateEntry_covers (.inl (List.mem_finRange i))

theorem enumerate_keepsPoints (b ends : Nat) (s : State) : KeepsPoints s (enumerate b ends s) :=
  List.foldlRecOn (motive := KeepsPoints s) allEntries (enumerateEntry b ends s.period) (.refl s)
    fun _ kept i _ => kept.trans (enumerateEntry_keepsPoints b ends s.period _ i)

end Sys2Proof.Proofs
end

section
/-! PROOFS. What FS leaves of a step (R105 to R113): the lists hold nothing but points of the tooth entered. -/

namespace Sys2Proof.Proofs

open Sys2Proof Sys2Proof.Machine Sys2Proof.Safety

/-! ### The lists of a tooth (R111 to R113) -/

/-- Point pt of entry i lies in the tooth from b, past its start. -/
def InTooth (b ends : Nat) (s : State) (i : EntryNo) (pt : Point) (a : Nat) : Prop :=
  pointAngleOf s.ctc.entries[i] pt = some a ∧ b < a ∧ a < ends

/-- The ticket is a point of the tooth, placed now with the present cycle (R111). -/
def ToothTicket (b ends : Nat) (period : Option Nat) (s : State) (tk : Ticket) : Prop :=
  tk.cycle = s.ag.cycle ∧ ∃ a p, pointAngleOf s.ctc.entries[tk.entry] tk.point = some a ∧ b < a ∧ a < ends ∧ period = some p
    ∧ tk.due = s.stamp + BitVec.ofNat 24 (p * (a - b) / (ends - b))

/-- Both lists hold points of the tooth alone, each list in its order and the tickets 24 at most. -/
structure ToothLists (b ends : Nat) (period : Option Nat) (s : State) : Prop where
  tickets : ∀ tk ∈ s.fs.tickets, ToothTicket b ends period s tk
  room : s.fs.tickets.length ≤ 24
  ticketOrder : ticketsOrdered s.stamp s.fs.tickets
  deferredOrder : deferredOrdered s.fs.deferred
  deferred : ∀ d ∈ s.fs.deferred, ∃ a, InTooth b ends s d.entry d.point a

theorem ToothTicket.of_frame {b ends : Nat} {period : Option Nat} {s t : State} {tk : Ticket} (frame : FiringFrame s t)
    (ticket : ToothTicket b ends period s tk) : ToothTicket b ends period t tk := by
  rw [ToothTicket, pointAngleOf_of_frame frame, frame.ag, frame.stamp]
  exact ticket

theorem InTooth.of_frame {b ends : Nat} {s t : State} {i : EntryNo} {pt : Point} {a : Nat} (frame : FiringFrame s t)
    (inside : InTooth b ends s i pt a) : InTooth b ends t i pt a := by
  rw [InTooth, pointAngleOf_of_frame frame]
  exact inside

theorem toothLists_of_empty {s : State} (b ends : Nat) (period : Option Nat) (tickets : s.fs.tickets = [])
    (deferred : s.fs.deferred = []) : ToothLists b ends period s where
  tickets tk h := absurd (tickets ▸ h) List.not_mem_nil
  room := by rw [tickets]; exact Nat.zero_le _
  ticketOrder := by rw [tickets]; exact List.Pairwise.nil
  deferredOrder := by rw [deferred]; exact List.Pairwise.nil
  deferred d h := absurd (deferred ▸ h) List.not_mem_nil

section Kept

variable {b ends : Nat} {period : Option Nat} {s : State}

theorem ToothLists.of_shrinks {t : State} (lists : ToothLists b ends period s) (frame : FiringFrame s t)
    (shrinks : ListsShrink s t) : ToothLists b ends period t where
  tickets tk h := (lists.tickets tk (shrinks.tickets.subset h)).of_frame frame
  room := shrinks.tickets.length_le.trans lists.room
  ticketOrder := by
    rw [frame.stamp]
    exact lists.ticketOrder.sublist shrinks.tickets
  deferredOrder := lists.deferredOrder.sublist shrinks.deferred
  deferred d h := (lists.deferred d (shrinks.deferred.subset h)).imp fun _ inside => inside.of_frame frame

theorem ToothLists.ticket_joins (lists : ToothLists b ends period s) {tk : Ticket} (ticket : ToothTicket b ends period s tk)
    (room : s.fs.tickets.length < 24) :
    ToothLists b ends period { s with fs := { s.fs with tickets := insertTicket s.stamp tk s.fs.tickets } } where
  tickets u h := by
    rcases (mem_insertTicket ..).1 h with rfl | h
    · exact ticket
    · exact lists.tickets u h
  room := (insertTicket_length ..).trans_le room
  ticketOrder := ticketsOrdered_insertTicket tk lists.ticketOrder
  deferredOrder := lists.deferredOrder
  deferred := lists.deferred

theorem ToothLists.point_joins (lists : ToothLists b ends period s) {i : EntryNo} {pt : Point} {a overflows : Nat}
    {cycle : Option Cycle} (inside : InTooth b ends s i pt a) :
    ToothLists b ends period { s with fs := { s.fs with
      deferred := insertDeferred ⟨i, pt⟩ s.fs.deferred
      deferredCycle := cycle
      overflows := overflows } } where
  tickets := lists.tickets
  room := lists.room
  ticketOrder := lists.ticketOrder
  deferredOrder := deferredOrdered_insertDeferred _ lists.deferredOrder
  deferred d h := by
    rcases (mem_insertDeferred ..).1 h with rfl | h
    · exact ⟨a, inside⟩
    · exact lists.deferred d h

theorem ToothLists.enumeratePoint (lists : ToothLists b ends period s) (i : EntryNo) (pt : Point) :
    ToothLists b ends period (enumeratePoint b ends period i pt s) := by
  rcases enumeratePoint_cases b ends period i pt s with
    ⟨same, -⟩ | fires | ⟨a, angle, past, below, ⟨p, timed, room, places⟩ | defers⟩
  · rwa [same]
  · rw [fires]
    exact lists.of_shrinks (fire_frame ..) (fire_shrinks ..)
  · rw [places]
    exact lists.ticket_joins ⟨rfl, a, p, angle, past, below, timed, rfl⟩ room
  · rw [defers]
    exact lists.point_joins ⟨angle, past, below⟩

theorem ToothLists.enumerateEntry (lists : ToothLists b ends period s) (i : EntryNo) :
    ToothLists b ends period (enumerateEntry b ends period s i) := by
  unfold Machine.enumerateEntry
  split
  · exact (lists.enumeratePoint i .stop).enumeratePoint i .start
  · exact lists

theorem ToothLists.enumerate (lists : ToothLists b ends s.period s) : ToothLists b ends s.period (enumerate b ends s) :=
  List.foldlRecOn (motive := ToothLists b ends s.period) allEntries (Machine.enumerateEntry b ends s.period) lists
    fun _ kept i _ => kept.enumerateEntry i

end Kept

/-! ### The step where no commit waits (R105 to R110) -/

/-- The state that a step enumerates: what was left is fired, the cycle is seen, and a tooth-0 step has activated. -/
def beforeEnumeration (rep : StepReport) (s : State) : State :=
  let angle := toothAngle s.cc.active.toothCount rep.tooth
  stepActivation applyPending rep (clearTaken rep.cycle (flushDeferred angle (flushTickets angle s.fs.tickets.length s)))

theorem stepActivation_of_commitFree (rep : StepReport) {s : State} (commitFree : s.cc.pendingRecord = none) :
    FiringFrame s (stepActivation applyPending rep s) ∧ (stepActivation applyPending rep s).fs = s.fs := by
  unfold Machine.stepActivation
  split
  · rw [applyPending_none _ (by rw [activateArming_cc, commitFree])]
    exact ⟨activateArming_frame s, activateArming_fs s⟩
  · exact ⟨.refl s, rfl⟩

section Step

variable {rep : StepReport} {s : State}

theorem beforeEnumeration_frame (commitFree : s.cc.pendingRecord = none) : FiringFrame s (beforeEnumeration rep s) := by
  have flushed := stepFlush_frame (toothAngle s.cc.active.toothCount rep.tooth) rep.cycle s
  exact flushed.trans (stepActivation_of_commitFree rep (by rw [flushed.cc, commitFree])).1

theorem beforeEnumeration_lists (commitFree : s.cc.pendingRecord = none) :
    (beforeEnumeration rep s).fs.tickets = [] ∧ (beforeEnumeration rep s).fs.deferred = []
      ∧ (beforeEnumeration rep s).fs.cycleSeen = rep.cycle := by
  have flushed := stepFlush_frame (toothAngle s.cc.active.toothCount rep.tooth) rep.cycle s
  rw [beforeEnumeration, (stepActivation_of_commitFree rep (by rw [flushed.cc, commitFree])).2]
  exact stepFlush_lists ..

theorem schedulerStep_eq_enumerate (commitFree : s.cc.pendingRecord = none) :
    schedulerStep applyPending rep s = if s.inFiring = true then
      enumerate (toothAngle s.cc.active.toothCount rep.tooth) (toothAngle s.cc.active.toothCount (rep.tooth + 1))
        (beforeEnumeration rep s)
    else beforeEnumeration rep s := by
  have frame := beforeEnumeration_frame (rep := rep) commitFree
  change stepEnumeration rep (beforeEnumeration rep s) = _
  rw [stepEnumeration, frame.inFiring, frame.cc]

theorem period_of_frame {t : State} (frame : FiringFrame s t) : t.period = s.period := by
  simp only [State.period, State.estimate, frame.ls, frame.pt, frame.cc]

theorem schedulerStep_toothLists (commitFree : s.cc.pendingRecord = none) :
    ToothLists (toothAngle s.cc.active.toothCount rep.tooth) (toothAngle s.cc.active.toothCount (rep.tooth + 1)) s.period
      (schedulerStep applyPending rep s) := by
  obtain ⟨tickets, deferred, -⟩ := beforeEnumeration_lists (rep := rep) commitFree
  have lists (b ends : Nat) := toothLists_of_empty b ends s.period tickets deferred
  rw [schedulerStep_eq_enumerate commitFree]
  split
  · rw [← period_of_frame (beforeEnumeration_frame (rep := rep) commitFree)] at lists ⊢
    exact (lists _ _).enumerate
  · exact lists _ _

theorem schedulerStep_cycleSeen (commitFree : s.cc.pendingRecord = none) :
    (schedulerStep applyPending rep s).fs.cycleSeen = rep.cycle := by
  obtain ⟨-, -, seen⟩ := beforeEnumeration_lists (rep := rep) commitFree
  rw [schedulerStep_eq_enumerate commitFree]
  split
  · rw [(enumerate_keepsPoints ..).cycleSeen, seen]
  · exact seen

theorem schedulerStep_covers (commitFree : s.cc.pendingRecord = none) (inside : s.inFiring = true) (i : EntryNo) :
    Covered (toothAngle s.cc.active.toothCount rep.tooth) (toothAngle s.cc.active.toothCount (rep.tooth + 1))
      (schedulerStep applyPending rep s) i := by
  rw [schedulerStep_eq_enumerate commitFree, if_pos inside]
  exact enumerate_covers _ _ _ i

theorem schedulerStep_empty_outside (commitFree : s.cc.pendingRecord = none) (outside : s.inFiring = false) :
    (schedulerStep applyPending rep s).fs.tickets = [] ∧ (schedulerStep applyPending rep s).fs.deferred = [] := by
  obtain ⟨tickets, deferred, -⟩ := beforeEnumeration_lists (rep := rep) commitFree
  rw [schedulerStep_eq_enumerate commitFree, if_neg (by rw [outside]; exact Bool.false_ne_true)]
  exact ⟨tickets, deferred⟩

end Step

/-- Settles O21: the lists through the enumeration that starts them empty, and the points it has placed. -/
theorem stepLeavesOnlyTheNewToothsTickets : Obligations.StepLeavesOnlyTheNewToothsTickets := by
  unfold Obligations.StepLeavesOnlyTheNewToothsTickets
  intro rep s commitFree
  have frame := schedulerStep_frame rep commitFree
  have lists := schedulerStep_toothLists (rep := rep) commitFree
  refine ⟨_, _, _, rfl, rfl, rfl, schedulerStep_cycleSeen commitFree, fun u member => ?_, lists.room, ?_,
    lists.deferredOrder, lists.deferred, fun inside i pt a live unpaused => ?_,
    schedulerStep_empty_outside commitFree, frame.stamp, frame.ag, frame.ls, frame.pt, frame.eq, frame.cc, frame.pi,
    frame.pending⟩
  · obtain ⟨cycle, a, p, point⟩ := lists.tickets u member
    rw [frame.ag] at cycle
    rw [frame.stamp] at point
    exact ⟨cycle, a, p, point⟩
  · have order := lists.ticketOrder
    rwa [frame.stamp] at order
  · refine schedulerStep_covers commitFree inside i pt a live ?_
    rwa [frame.ls]

end Sys2Proof.Proofs
end

section
/-! PROOFS. The owner's requests on a track: ASSIGN_TRACK, RELEASE_TRACK, SET_TRACK and DRIVE_TRACK (R131 to R134, R136,
R137). -/

namespace Sys2Proof.Proofs

open Sys2Proof Sys2Proof.Machine Sys2Proof.Safety

/-- A request answers the reply that its block gives (R187, R191). -/
theorem answers_of_reply {i : Instr} {p : Port} {request : List Byte} {s t : State} {r : Reply}
    {act : State → State × Reply} (he : encodeRequest i = some (p, request))
    (hx : exec i s = .next (takeRequest p i act s)) (acts : act s = (t, r)) : Answers i p request r.wire s t :=
  answers_of he hx (by rw [acts]) (by rw [acts])

/-! ### ASSIGN_TRACK (R133) -/

section Assign

variable {p q : Port} {k : TrackNo} {s : State}

theorem actAssignTrack_of_unowned (unowned : s.td[k].owner = none) :
    actAssignTrack p (octet k.val) s = (s.modTrack k fun t => { t with owner := some p }, Reply.bare .ok) := by
  rw [actAssignTrack, onTrackNo_octet]
  simp only [unowned]

theorem actAssignTrack_of_own (own : s.td[k].owner = some p) :
    actAssignTrack p (octet k.val) s = (s, Reply.bare .already) := by
  rw [actAssignTrack, onTrackNo_octet]
  simp only [own, if_true]

theorem actAssignTrack_of_other (other : s.td[k].owner = some q) (ne : q ≠ p) :
    actAssignTrack p (octet k.val) s = (s, Reply.bare .denied) := by
  rw [actAssignTrack, onTrackNo_octet]
  simp only [other, if_neg ne]

end Assign

/-! ### RELEASE_TRACK (R134) -/

theorem entry_armed_iff (e : Entry) : e.armed = true ↔ e.state = .arming ∨ e.state = .live := by
  rw [Entry.armed, Bool.or_eq_true, beq_iff_eq, beq_iff_eq]

/-- R134: what TRACK_IN_USE looks for. -/
theorem trackInUse_iff (p : Port) (k : TrackNo) (s : State) :
    trackInUse p k s = true ↔ ∃ i : EntryNo,
      (s.ctc.entries[i].state = .arming ∨ s.ctc.entries[i].state = .live)
        ∧ s.ctc.entries[i].owner = some p ∧ s.ctc.entries[i].image.track = some k := by
  simp only [trackInUse, allEntries, List.any_eq_true, List.mem_finRange, true_and, Bool.and_eq_true, entry_armed_iff,
    beq_iff_eq, and_assoc]

/-- R134: the default record, but for the window count, which no release writes. -/
theorem track_release_eq (t : Track) : t.release = ⟨none, false, t.windowCount, none, false, false, false⟩ := rfl

section Release

variable {p : Port} {k : TrackNo} {s : State}

theorem actReleaseTrack_of_used (own : s.td[k].owner = some p) (used : trackInUse p k s = true) :
    actReleaseTrack p (octet k.val) s = (s, Reply.bare .trackInUse) := by
  rw [actReleaseTrack, onOwnTrack_own _ own, if_pos used]

theorem actReleaseTrack_of_unused (own : s.td[k].owner = some p) (unused : ¬trackInUse p k s = true) :
    actReleaseTrack p (octet k.val) s = (s.modTrack k Track.release, Reply.bare .ok) := by
  rw [actReleaseTrack, onOwnTrack_own _ own, if_neg unused]

end Release

/-- Settles O45: RANGE, then the owner, then the armed entries that name the track. -/
theorem tracksAreAssignedAndReleased : Obligations.TracksAreAssignedAndReleased := by
  unfold Obligations.TracksAreAssignedAndReleased
  refine fun p x s => ⟨fun high => ⟨?_, ?_⟩, fun k number => ?_⟩
  · exact answers_of_refusal (act := actAssignTrack p x) .range rfl rfl (onTrackNo_range s _ high)
  · exact answers_of_refusal (act := actReleaseTrack p x) .range rfl rfl (onOwnTrack_range s _ high)
  subst number
  refine ⟨fun unowned => ?_, fun own => ?_, fun q other ne => ?_, fun other => ?_, fun named naming =>
    ⟨fun own used => ?_, fun own unused => ?_⟩⟩
  · exact answers_of_reply (act := actAssignTrack p _) rfl rfl (actAssignTrack_of_unowned unowned)
  · exact answers_of_refusal (act := actAssignTrack p _) .already rfl rfl (actAssignTrack_of_own own)
  · exact answers_of_refusal (act := actAssignTrack p _) .denied rfl rfl (actAssignTrack_of_other other ne)
  · exact answers_of_refusal (act := actReleaseTrack p _) .denied rfl rfl (onOwnTrack_other _ other)
  · have inUse := (trackInUse_iff p k s).2 (naming.1 used)
    exact answers_of_refusal (act := actReleaseTrack p _) .trackInUse rfl rfl (actReleaseTrack_of_used own inUse)
  · have notInUse : ¬trackInUse p k s = true := fun inUse => unused (naming.2 ((trackInUse_iff p k s).1 inUse))
    rw [← track_release_eq, ← vmod_eq_set]
    exact answers_of_reply (act := actReleaseTrack p _) rfl rfl (actReleaseTrack_of_unused own notInUse)

/-! ### The levels (R131, R132) -/

theorem track_logical_iff (t : Track) : t.logical = true ↔ t.latch = true ∨ 0 < t.windowCount ∨ t.pulse ≠ none := by
  rw [Track.logical, Bool.or_eq_true, Bool.or_eq_true, decide_eq_true_eq, Option.isSome_iff_ne_none, or_assoc]

theorem track_line_iff (t : Track) : t.line = true ↔ t.logical ≠ t.inverted := bne_iff_ne

theorem track_levels_eq_octet (t : Track) : t.levels = octet (t.logical.toNat + 2 * t.line.toNat) := flagByte_eq_octet _

/-- R131: a latch write acts on no other contribution. -/
theorem drive_logical_iff (v : Bool) (t : Track) :
    (t.drive v).logical = true ↔ v = true ∨ 0 < t.windowCount ∨ t.pulse ≠ none := track_logical_iff (t.drive v)

/-! ### SET_TRACK and DRIVE_TRACK (R136, R137) -/

section Settings

variable {p : Port} {k : TrackNo} {a c d : Byte} {s : State}

theorem actSetTrack_of_range (own : s.td[k].owner = some p) (bad : 2 ≤ a.toNat ∨ 2 ≤ c.toNat ∨ 2 ≤ d.toNat) :
    actSetTrack p (octet k.val) a c d s = (s, Reply.bare .range) := by
  rw [actSetTrack, onOwnTrack_own _ own]
  rcases bad with polarity | safe | onLoss
  · simp only [yesNo_range polarity]
  · simp only [yesNo_range safe]
    cases yesNo a <;> rfl
  · simp only [yesNo_range onLoss]
    cases yesNo a <;> cases yesNo c <;> rfl

theorem actSetTrack_of_bits (own : s.td[k].owner = some p) (polarity : a.toNat < 2) (safe : c.toNat < 2)
    (onLoss : d.toNat < 2) :
    actSetTrack p (octet k.val) a c d s =
      (s.modTrack k fun t => { t with inverted := a == 1, safeActive := c == 1, keepOnLoss := d == 1 },
        Reply.bare .ok) := by
  rw [actSetTrack, onOwnTrack_own _ own]
  simp only [yesNo_bit polarity, yesNo_bit safe, yesNo_bit onLoss]

theorem actDriveTrack_of_range (own : s.td[k].owner = some p) (bad : 2 ≤ a.toNat) :
    actDriveTrack p (octet k.val) a s = (s, Reply.bare .range) := by
  rw [actDriveTrack, onOwnTrack_own _ own]
  simp only [yesNo_range bad]

theorem actDriveTrack_of_bit (own : s.td[k].owner = some p) (value : a.toNat < 2) :
    actDriveTrack p (octet k.val) a s =
      (s.modTrack k (Track.drive (a == 1)), ⟨.ok, [(s.td[k].drive (a == 1)).levels]⟩) := by
  rw [actDriveTrack, onOwnTrack_own _ own]
  simp only [yesNo_bit value]

end Settings

/-- Settles O46: RANGE, then the owner, then the values; DRIVE_TRACK's byte is that of the levels after the latch write. -/
theorem tracksAreSetAndDriven : Obligations.TracksAreSetAndDriven := by
  unfold Obligations.TracksAreSetAndDriven
  refine fun p x a c d s => ⟨fun high => ⟨?_, ?_⟩, fun k number => ?_⟩
  · exact answers_of_refusal (act := actSetTrack p x a c d) .range rfl rfl (onOwnTrack_range s _ high)
  · exact answers_of_refusal (act := actDriveTrack p x a) .range rfl rfl (onOwnTrack_range s _ high)
  subst number
  refine ⟨fun other => ⟨?_, ?_⟩, fun own => ⟨fun bad => ?_, fun bad => ?_, fun polarity safe onLoss => ?_, fun value => ?_⟩⟩
  · exact answers_of_refusal (act := actSetTrack p _ a c d) .denied rfl rfl (onOwnTrack_other _ other)
  · exact answers_of_refusal (act := actDriveTrack p _ a) .denied rfl rfl (onOwnTrack_other _ other)
  · exact answers_of_refusal (act := actSetTrack p _ a c d) .range rfl rfl (actSetTrack_of_range own bad)
  · exact answers_of_refusal (act := actDriveTrack p _ a) .range rfl rfl (actDriveTrack_of_range own bad)
  · exact answers_of_reply (act := actSetTrack p _ a c d) rfl rfl (actSetTrack_of_bits own polarity safe onLoss)
  · have driven := drive_logical_iff (a == 1) s.td[k]
    rw [beq_iff_eq] at driven
    refine ⟨_, _, driven, track_line_iff (s.td[k].drive (a == 1)), ?_⟩
    rw [← track_levels_eq_octet]
    exact answers_of_reply (act := actDriveTrack p _ a) rfl rfl (actDriveTrack_of_bit own value)

end Sys2Proof.Proofs
end

section
/-! PROOFS. Delivery of a record at one port (R149, R154, R155, R159): what a slot takes, which slot is the first that takes
a record, and what the port then holds. -/

namespace Sys2Proof.Proofs

open Sys2Proof Sys2Proof.Machine Sys2Proof.Safety

/-! ### Matching (R154) -/

/-- Two words agree where both masks have a bit. -/
theorem masked_xor_eq_zero_iff {w : Nat} (a b m k : BitVec w) :
    (a ^^^ b) &&& m &&& k = 0 ↔
      ∀ j, m.getLsbD j = true → k.getLsbD j = true → a.getLsbD j = b.getLsbD j := by
  constructor
  · intro zero j inM inK
    have bit := congrArg (BitVec.getLsbD · j) zero
    simpa [inM, inK] using bit
  · intro agree
    refine BitVec.eq_of_getLsbD_eq fun j _ => ?_
    by_cases inside : m.getLsbD j = true ∧ k.getLsbD j = true
    · obtain ⟨inM, inK⟩ := inside
      simp [agree j inM inK]
    · have outside : (m.getLsbD j && k.getLsbD j) = false := by simpa using inside
      rw [BitVec.getLsbD_and, BitVec.getLsbD_and, Bool.and_assoc, outside, Bool.and_false]
      exact BitVec.getLsbD_zero.symm

theorem slotMatches_iff_admits (q : EventPort) (p : Port) (ev : Event) (n : SlotNo) :
    slotMatches q p ev n ↔ q.slots[n].admits p q.portMask ev = true := by
  simp only [slotMatches, Slot.admits, Bool.and_eq_true, Bool.or_eq_true, Bool.not_eq_true', beq_iff_eq,
    masked_xor_eq_zero_iff, and_assoc]

theorem takingSlot_eq_find? (q : EventPort) (p : Port) (ev : Event) :
    q.takingSlot p ev = Fin.find? fun n : SlotNo => q.slots[n].admits p q.portMask ev :=
  Fin.find?_eq_find?_finRange.symm

theorem takingSlot_of_no_match {q : EventPort} {p : Port} {ev : Event} (noMatch : ∀ n, ¬slotMatches q p ev n) :
    q.takingSlot p ev = none := by
  rw [takingSlot_eq_find?, Fin.find?_eq_none_iff]
  exact fun n => Bool.eq_false_iff.2 (mt (slotMatches_iff_admits q p ev n).2 (noMatch n))

theorem takingSlot_of_first_match {q : EventPort} {p : Port} {ev : Event} {n : SlotNo} (matching : slotMatches q p ev n)
    (first : ∀ m, m < n → ¬slotMatches q p ev m) : q.takingSlot p ev = some n := by
  rw [takingSlot_eq_find?, Fin.find?_eq_some_iff]
  exact ⟨(slotMatches_iff_admits q p ev n).1 matching,
    fun m lower => Bool.eq_false_iff.2 (mt (slotMatches_iff_admits q p ev m).2 (first m lower))⟩

/-! ### Delivery (R149, R155, R159) -/

theorem post_er_at (ev : Event) (s : State) (p : Port) : (post ev s).er[p] = s.er[p].deliver p ev := by
  simp [post]

theorem deliver_of_no_slot {q : EventPort} {p : Port} {ev : Event} (noneTakes : q.takingSlot p ev = none) :
    q.deliver p ev = q := by
  simp only [EventPort.deliver, noneTakes]

theorem deliver_of_taking {q : EventPort} {p : Port} {ev : Event} {n : SlotNo} (takes : q.takingSlot p ev = some n) :
    q.deliver p ev =
      if q.slots[n].latest = true then { q with latest := vmod q.latest n fun r => r.store ev } else q.append ev := by
  simp only [EventPort.deliver, takes]

/-- Settles O31: the slot that takes the record is the first that matches, and delivery follows its mode. -/
theorem recordGoesToTheFirstMatchingSlot : Obligations.RecordGoesToTheFirstMatchingSlot := by
  intro ev s p
  rw [post_er_at]
  refine ⟨fun noMatch => ?_, fun n matching first => ?_⟩
  · exact deliver_of_no_slot (takingSlot_of_no_match noMatch)
  · exact deliver_of_taking (takingSlot_of_first_match matching first)

end Sys2Proof.Proofs
end

section
/-! PROOFS. The requests on a port's delivery: POP_EVENT, READ_QUEUE_INFO and READ_LATEST (R156, R157, R160), and
SET_PORT_MASK, WRITE_SLOT and SET_ATTN_MASK (R151, R152, R162), with the layouts of R199. -/

namespace Sys2Proof.Proofs

open Sys2Proof Sys2Proof.Machine Sys2Proof.Safety

/-! ### Response bytes (R196, R199) -/

theorem recordBytes_eq (ev : Event) :
    recordBytes ev =
      [octet ev.kind.code, octet (bitsValue [ev.late, ev.forced, ev.level, ev.cycle.isSome]), ev.tag, octet ev.source]
        ++ octets2 ((ev.cycle.map BitVec.toNat).getD 0) ++ angleOctets ev.angle ++ octets3 ev.stamp.toNat := by
  rw [recordBytes]
  cases ev.kind <;> rfl

theorem eventWire_eq_recordBytes (ev : Event) : ev.wire = recordBytes ev := by
  have cycle : (ev.cycle.getD 0).toNat = (ev.cycle.map BitVec.toNat).getD 0 := by
    cases ev.cycle <;> rfl
  simp only [Event.wire, recordBytes_eq, flagByte_eq_octet, byteOf_eq_octet, bytesOf16_eq_octets2,
    bytesOf24_eq_octets3, angleBytes_eq_angleOctets, cycle]

theorem latest_flags_eq_octet (r : LatestRegister) :
    r.flags = octet (r.fresh.toNat + 2 * r.overwritten.toNat) := flagByte_eq_octet _

theorem flagByte_singleton (b : Bool) : flagByte [b] = if b = true then 1 else 0 := by
  cases b <;> rfl

section Reads

variable {p : Port} {s : State}

/-! ### POP_EVENT (R156) -/

theorem actPopEvent_of_empty (empty : s.er[p].queue = []) : actPopEvent p s = (s, Reply.bare .empty) := by
  simp only [actPopEvent, empty]

theorem actPopEvent_of_oldest {ev : Event} {rest : List Event} (holds : s.er[p].queue = ev :: rest) :
    actPopEvent p s =
      (s.modEvents p fun q => { q with popMark := true }, ⟨.ok, recordBytes ev ++ [octet rest.length]⟩) := by
  simp only [actPopEvent, holds, eventWire_eq_recordBytes, byteOf_eq_octet]

/-! ### READ_QUEUE_INFO (R157) -/

theorem actReadQueueInfo_eq :
    actReadQueueInfo p s =
      (s.modEvents p fun q => { q with lostMark := true },
        ⟨.ok, [octet s.er[p].queue.length, octet s.er[p].lost, octet s.er[p].watermark,
          if s.er[p].overflowCause = true then 1 else 0]⟩) := by
  simp only [actReadQueueInfo, flagByte_singleton, byteOf_eq_octet]

/-! ### READ_LATEST (R160) -/

theorem actReadLatest_of_range {x : Byte} (high : 4 ≤ x.toNat) : actReadLatest p x s = (s, Reply.bare .range) := by
  simp only [actReadLatest, slotOf_range high]

theorem actReadLatest_of_empty {n : SlotNo} (empty : s.er[p].latest[n].record = none) :
    actReadLatest p (octet n.val) s = (s, Reply.bare .empty) := by
  simp only [actReadLatest, slotOf_octet, empty]

theorem actReadLatest_of_record {n : SlotNo} {ev : Event} (holds : s.er[p].latest[n].record = some ev) :
    actReadLatest p (octet n.val) s =
      (s.modEvents p fun q => { q with latest := vmod q.latest n fun r => { r with mark := r.mark || r.fresh } },
        ⟨.ok, octet (s.er[p].latest[n].fresh.toNat + 2 * s.er[p].latest[n].overwritten.toNat) :: recordBytes ev⟩) := by
  simp only [actReadLatest, slotOf_octet, holds, latest_flags_eq_octet, eventWire_eq_recordBytes]

end Reads

/-- Settles O38: RANGE, then EMPTY, then the record or the queue's figures, with their mark. -/
theorem deliveryReadsMarkWhatTheyReport : Obligations.DeliveryReadsMarkWhatTheyReport := by
  unfold Obligations.DeliveryReadsMarkWhatTheyReport
  refine fun p x s => ⟨fun empty => ?_, fun ev rest holds => ?_, ?_, fun high => ?_, fun n number => ?_⟩
  · exact answers_of_refusal (act := actPopEvent p) .empty rfl rfl (actPopEvent_of_empty empty)
  · exact answers_of_reply (act := actPopEvent p) rfl rfl (actPopEvent_of_oldest holds)
  · exact answers_of_reply (act := actReadQueueInfo p) rfl rfl actReadQueueInfo_eq
  · exact answers_of_refusal (act := actReadLatest p x) .range rfl rfl (actReadLatest_of_range high)
  subst number
  refine ⟨fun empty => ?_, fun ev holds => ?_⟩
  · exact answers_of_refusal (act := actReadLatest p _) .empty rfl rfl (actReadLatest_of_empty empty)
  · exact answers_of_reply (act := actReadLatest p _) rfl rfl (actReadLatest_of_record holds)

/-! ### The slot image (R152, R199) -/

/-- The settings are read byte by byte, and the first byte that stands for no value ends the reading. -/
theorem parseSlot_eq_bind (r : RawSlot) :
    parseSlot r =
      (yesNo r.enabled).bind fun enabled =>
        (if r.kinds.toNat < 64 then some (r.kinds.setWidth 6) else none).bind fun kinds =>
          (yesNo r.own).bind fun own =>
            (yesNo r.mode).bind fun latest => some ⟨enabled, r.tag, r.mask, kinds, own, latest⟩ := by
  rw [parseSlot, BitVec.setWidth_eq_extractLsb' (by omega)]
  by_cases kinds : r.kinds.toNat < 64
  · simp only [if_pos kinds]
    rfl
  · simp only [if_neg kinds]
    rfl

theorem parseSlot_of_inRange {r : RawSlot} (enabled : r.enabled.toNat < 2) (kinds : r.kinds.toNat < 64)
    (own : r.own.toNat < 2) (mode : r.mode.toNat < 2) :
    parseSlot r = some ⟨r.enabled == 1, r.tag, r.mask, r.kinds.setWidth 6, r.own == 1, r.mode == 1⟩ := by
  rw [parseSlot_eq_bind, yesNo_bit enabled, if_pos kinds, yesNo_bit own, yesNo_bit mode]
  rfl

theorem parseSlot_of_outOfRange {r : RawSlot}
    (bad : 2 ≤ r.enabled.toNat ∨ 64 ≤ r.kinds.toNat ∨ 2 ≤ r.own.toNat ∨ 2 ≤ r.mode.toNat) : parseSlot r = none := by
  rw [parseSlot_eq_bind]
  rcases bad with enabled | kinds | own | mode
  · simp only [yesNo_range enabled, Option.bind_none]
  · simp only [if_neg (Nat.not_lt.2 kinds), Option.bind_none, Option.bind_fun_none]
  · simp only [yesNo_range own, Option.bind_none, Option.bind_fun_none]
  · simp only [yesNo_range mode, Option.bind_none, Option.bind_fun_none]

section Writes

variable {p : Port} {s : State}

/-! ### WRITE_SLOT (R152) -/

theorem actWriteSlot_of_number_range {x : Byte} (r : RawSlot) (high : 4 ≤ x.toNat) :
    actWriteSlot p x r s = (s, Reply.bare .range) := by
  simp only [actWriteSlot, slotOf_range high]

theorem actWriteSlot_of_image_range {r : RawSlot} (x : Byte) (bad : parseSlot r = none) :
    actWriteSlot p x r s = (s, Reply.bare .range) := by
  simp only [actWriteSlot, bad]
  cases slotOf x <;> rfl

theorem actWriteSlot_of_parsed {n : SlotNo} {r : RawSlot} {k : Slot} (parsed : parseSlot r = some k) :
    actWriteSlot p (octet n.val) r s =
      (s.modEvents p fun q =>
          { q with
            slots := vmod q.slots n fun _ => k
            latest := vmod q.latest n fun _ => LatestRegister.empty },
        Reply.bare .ok) := by
  simp only [actWriteSlot, slotOf_octet, parsed]

/-! ### SET_ATTN_MASK (R162) -/

theorem actSetAttnMask_of_range {causes : BitVec 16} {x : Byte} (bad : 512 ≤ causes.toNat ∨ x = 0 ∨ 16 < x.toNat) :
    actSetAttnMask p causes x s = (s, Reply.bare .range) := by
  rcases bad with causesHigh | watermarkBad
  · simp only [actSetAttnMask, causeSetOf_range causesHigh]
  · simp only [actSetAttnMask, watermarkOf_range watermarkBad]
    cases causeSetOf causes <;> rfl

/-- A cause set below 512 crosses the port as it came. -/
theorem causeSet_wire_setWidth {causes : BitVec 16} (low : causes.toNat < 512) :
    CauseSet.wire (causes.setWidth 9) = bytesOf16 causes := by
  have whole : (causes.setWidth 9).setWidth 16 = causes :=
    BitVec.eq_of_toNat_eq (by simp only [BitVec.toNat_setWidth]; omega)
  rw [CauseSet.wire, whole]

theorem actSetAttnMask_of_inRange {causes : BitVec 16} {x : Byte} (low : causes.toNat < 512) (given : x ≠ 0)
    (watermark : x.toNat ≤ 16) :
    actSetAttnMask p causes x s =
      (s.modEvents p fun q => { q with attnMask := causes.setWidth 9, watermark := x.toNat },
        ⟨.ok, bytesOf16 causes ++ [x]⟩) := by
  have byte : byteOf x.toNat = x := (byte_eq_octet rfl).symm
  simp only [actSetAttnMask, causeSetOf_some low, watermarkOf_some given watermark, causeSet_wire_setWidth low, byte]

end Writes

/-- Settles O47: RANGE by the slot number, the image, the causes or the watermark; otherwise the port's own settings. -/
theorem subscriptionsAreWritten : Obligations.SubscriptionsAreWritten := by
  unfold Obligations.SubscriptionsAreWritten
  refine fun p x r causes s => ⟨?_, fun bad => ?_, fun n number enabled kinds own mode => ?_, fun bad => ?_,
    fun low given watermark => ?_⟩
  · exact answers_of_reply (act := actSetPortMask p x) rfl rfl rfl
  · refine answers_of_refusal (act := actWriteSlot p x r) .range rfl rfl ?_
    rcases bad with high | bad
    · exact actWriteSlot_of_number_range r high
    · exact actWriteSlot_of_image_range x (parseSlot_of_outOfRange bad)
  · subst number
    exact answers_of_reply (act := actWriteSlot p _ r) rfl rfl
      (actWriteSlot_of_parsed (parseSlot_of_inRange enabled kinds own mode))
  · exact answers_of_refusal (act := actSetAttnMask p causes x) .range rfl rfl (actSetAttnMask_of_range bad)
  · exact answers_of_reply (act := actSetAttnMask p causes x) rfl rfl (actSetAttnMask_of_inRange low given watermark)

end Sys2Proof.Proofs
end

section
/-! PROOFS. The claim, the read marks and the capacities (R112, R155, R162, R167, R190; 00_scope.md, "Counters"): what they
read of a state, their law as one law of it, and what the operations of delivery and of the Firing Scheduler do to it. -/

namespace Sys2Proof.Proofs

open Sys2Proof Sys2Proof.Machine Sys2Proof.Safety

/-! ### The law and what it speaks of -/

/-- All that the claim, the read marks and the capacities read of a state, ports aside. -/
structure Ledger where
  totalNoise : Nat
  cycleNoise : Nat
  speedSteps : Nat
  totalMisses : Nat
  lateTeeth : Nat
  indexNoise : Nat
  missCount : Nat
  indexErrors : Nat
  overflows : Nat
  tickets : Nat
  holder : Option Port
  waiting : List Port
  staged : Bool
  latches : Vector (Vector Marked 4) 4
  stepSeen : Vector Marked 4
  lockMarks : Vector Bool 4
  claimMarks : Vector Bool 4
  er : Vector EventPort 4

def ledgerOf (s : State) : Ledger where
  totalNoise := s.eq.totalNoise
  cycleNoise := s.eq.cycleNoise
  speedSteps := s.pt.speedSteps
  totalMisses := s.ag.totalMisses
  lateTeeth := s.ag.lateTeeth
  indexNoise := s.ag.indexNoise
  missCount := s.ag.missCount
  indexErrors := s.ls.indexErrors
  overflows := s.fs.overflows
  tickets := s.fs.tickets.length
  holder := s.cc.holder
  waiting := s.cc.waiting
  staged := s.cc.staged.isSome
  latches := s.eq.latches
  stepSeen := s.pt.stepSeen
  lockMarks := s.ls.lockMarks
  claimMarks := s.cc.claimMarks
  er := s.er

/-- ER's part of a port within its capacities, with the record that POP_EVENT marked on the queue; a quiet port has no
mark there. -/
def DeliverySound (quiet : Prop) (q : EventPort) : Prop :=
  (q.queue.length ≤ 16 ∧ q.lost ≤ 255 ∧ 1 ≤ q.watermark ∧ q.watermark ≤ 16)
    ∧ (q.popMark = true → q.queue ≠ [])
    ∧ (quiet → q.popMark = false ∧ q.lostMark = false ∧ ∀ n : SlotNo, q.latest[n].mark = false)

/-- The claim is sound, every count and list is within its capacity, and no quiet port has a read mark. -/
structure LedgerSound (quiet : Port → Prop) (L : Ledger) : Prop where
  totalNoise : L.totalNoise ≤ 65535
  cycleNoise : L.cycleNoise ≤ 65535
  speedSteps : L.speedSteps ≤ 65535
  totalMisses : L.totalMisses ≤ 65535
  lateTeeth : L.lateTeeth ≤ 65535
  indexNoise : L.indexNoise ≤ 65535
  missCount : L.missCount ≤ 65535
  indexErrors : L.indexErrors ≤ 65535
  overflows : L.overflows ≤ 65535
  tickets : L.tickets ≤ 24
  waitsOnce : L.waiting.Nodup
  holderWaitsNot : ∀ h, L.holder = some h → h ∉ L.waiting
  nobodyWaits : L.holder = none → L.waiting = []
  staged : L.staged = L.holder.isSome
  latches : ∀ p, quiet p → ∀ n : GateNo, L.latches[p][n].mark = false
  stepSeen : ∀ p, quiet p → L.stepSeen[p].mark = false
  lockMarks : ∀ p, quiet p → L.lockMarks[p] = false
  claimMarks : ∀ p, quiet p → L.claimMarks[p] = false
  delivery : ∀ p : Port, DeliverySound (quiet p) L.er[p]

/-- The law of the state's ledger, for the ports that hold no read mark. -/
abbrev Tidy (quiet : Port → Prop) (s : State) : Prop := LedgerSound quiet (ledgerOf s)

/-- A port outside RESPONDING and TRAILING. -/
def Quiet (s : State) (p : Port) : Prop := s.pi[p].framing ≠ .responding ∧ s.pi[p].framing ≠ .trailing

theorem marked_eq_false_iff (s : State) (p : Port) :
    marked s p = false ↔ (∀ n : GateNo, s.eq.latches[p][n].mark = false) ∧ s.pt.stepSeen[p].mark = false
      ∧ s.ls.lockMarks[p] = false ∧ s.cc.claimMarks[p] = false ∧ s.er[p].popMark = false ∧ s.er[p].lostMark = false
      ∧ ∀ n : SlotNo, s.er[p].latest[n].mark = false := by
  simp [-Fin.getElem_fin, marked, and_assoc]

/-- The three laws are the law of the ledger for the ports outside RESPONDING and TRAILING. -/
theorem tidy_iff (s : State) : Tidy (Quiet s) s ↔ ClaimSound s ∧ MarksSound s ∧ WithinCapacity s := by
  have unmarked (p : Port) : (marked s p = true → s.pi[p].framing = .responding ∨ s.pi[p].framing = .trailing)
      ↔ (Quiet s p → marked s p = false) := by
    cases marked s p <;> simp [-Fin.getElem_fin, Quiet, or_iff_not_imp_left]
  constructor
  · intro h
    refine ⟨⟨h.waitsOnce, h.holderWaitsNot, h.nobodyWaits, ?_⟩, fun p => ⟨(unmarked p).2 fun quiet => ?_, ?_⟩,
      fun p => ?_, h.tickets, h.totalNoise, h.cycleNoise, h.speedSteps, h.totalMisses, h.lateTeeth, h.indexNoise,
      h.missCount, h.indexErrors, h.overflows⟩
    · exact Bool.eq_iff_iff.1 h.staged
    · exact (marked_eq_false_iff s p).2 ⟨h.latches p quiet, h.stepSeen p quiet, h.lockMarks p quiet,
        h.claimMarks p quiet, (h.delivery p).2.2 quiet⟩
    · exact (h.delivery p).2.1
    · exact (h.delivery p).1
  · rintro ⟨⟨waitsOnce, holderWaitsNot, nobodyWaits, staged⟩, marks, ports, tickets, totalNoise, cycleNoise, speedSteps,
      totalMisses, lateTeeth, indexNoise, missCount, indexErrors, overflows⟩
    have marks' (p : Port) (quiet : Quiet s p) := (marked_eq_false_iff s p).1 ((unmarked p).1 (marks p).1 quiet)
    exact { totalNoise, cycleNoise, speedSteps, totalMisses, lateTeeth, indexNoise, missCount, indexErrors, overflows,
            tickets, waitsOnce, holderWaitsNot, nobodyWaits
            staged := Bool.eq_iff_iff.2 staged
            latches := fun p quiet => (marks' p quiet).1
            stepSeen := fun p quiet => (marks' p quiet).2.1
            lockMarks := fun p quiet => (marks' p quiet).2.2.1
            claimMarks := fun p quiet => (marks' p quiet).2.2.2.1
            delivery := fun p => ⟨ports p, (marks p).2, fun quiet => (marks' p quiet).2.2.2.2⟩ }

theorem satInc_le (max n : Nat) : satInc max n ≤ max := Nat.min_le_right _ _

/-- The operation keeps the law of the ledger. -/
def KeepsTidy (quiet : Port → Prop) (f : State → State) : Prop := ∀ s, Tidy quiet s → Tidy quiet (f s)

theorem Tidy.congr {quiet : Port → Prop} {s t : State} (h : Tidy quiet s) (e : ledgerOf t = ledgerOf s) : Tidy quiet t := by
  rwa [Tidy, e]

/-- With fewer quiet ports the law asks for less. -/
theorem Tidy.mono {quiet fewer : Port → Prop} {s : State} (h : Tidy quiet s) (fewerQuiet : ∀ p, fewer p → quiet p) :
    Tidy fewer s :=
  { h with
    latches := fun p q => h.latches p (fewerQuiet p q)
    stepSeen := fun p q => h.stepSeen p (fewerQuiet p q)
    lockMarks := fun p q => h.lockMarks p (fewerQuiet p q)
    claimMarks := fun p q => h.claimMarks p (fewerQuiet p q)
    delivery := fun p =>
      have ⟨within, popped, marks⟩ := h.delivery p
      ⟨within, popped, fun q => marks (fewerQuiet p q)⟩ }

section Quiet

variable {quiet : Port → Prop} {s : State}

theorem keepsTidy_foldl {α : Type} {f : State → α → State} (hf : ∀ s a, Tidy quiet s → Tidy quiet (f s a))
    (l : List α) : KeepsTidy quiet fun s => l.foldl f s := by
  induction l with
  | nil => exact fun _ h => h
  | cons a rest ih => exact fun s h => ih _ (hf s a h)

/-! ### Delivery (R154, R155, R159) -/

/-- R155, R159: a record is appended where there is room, and a mark is only ever removed. -/
theorem deliverySound_deliver {quiet : Prop} {q : EventPort} (h : DeliverySound quiet q) (p : Port) (ev : Event) :
    DeliverySound quiet (q.deliver p ev) := by
  obtain ⟨⟨queue, lost, watermark⟩, popped, marks⟩ := h
  unfold EventPort.deliver
  split
  · exact ⟨⟨queue, lost, watermark⟩, popped, marks⟩
  · next n _ =>
      split
      · refine ⟨⟨queue, lost, watermark⟩, popped, fun hq => ?_⟩
        obtain ⟨pop, lostMark, latest⟩ := marks hq
        refine ⟨pop, lostMark, fun m => ?_⟩
        rw [vmod_at]
        split
        · rfl
        · exact latest m
      · unfold EventPort.append
        split
        · next room =>
            refine ⟨⟨?_, lost, watermark⟩, fun _ => by simp, marks⟩
            rw [List.length_append]
            exact room
        · refine ⟨⟨queue, satInc_le _ _, watermark⟩, popped, fun hq => ?_⟩
          obtain ⟨pop, -, latest⟩ := marks hq
          exact ⟨pop, rfl, latest⟩

theorem post_tidy (ev : Event) : KeepsTidy quiet (post ev) := fun s h =>
  { h with delivery := fun p => (post_er_at ev s p).symm ▸ deliverySound_deliver (h.delivery p) p ev }

theorem postEntry_tidy (kind : EventKind) (o : Occasion) (i : EntryNo) : KeepsTidy quiet (postEntry kind o i) := by
  intro s h
  unfold postEntry
  split
  · exact h
  · exact post_tidy _ s h

/-! ### Operations that leave the ledger, and the ticket list (R112) -/

theorem ledgerOf_onTrack (k : Option TrackNo) (f : Track → Track) (s : State) : ledgerOf (onTrack k f s) = ledgerOf s := by
  unfold onTrack
  split <;> rfl

theorem ledgerOf_startAction (im : EntryImage) (s : State) : ledgerOf (startAction im s) = ledgerOf s := by
  unfold startAction
  split
  · rfl
  · exact ledgerOf_onTrack _ _ s
  · exact ledgerOf_onTrack _ _ s
  · split
    · rfl
    · exact ledgerOf_onTrack _ _ s
  · rfl

theorem ledgerOf_activateArming (s : State) : ledgerOf (activateArming s) = ledgerOf s := by
  simp [ledgerOf]

theorem ledgerOf_applyOnLoss (s : State) : ledgerOf (applyOnLoss s) = ledgerOf s := by
  simp [ledgerOf]

theorem ledgerOf_clearTaken (cycle : Cycle) (s : State) : ledgerOf (clearTaken cycle s) = ledgerOf s := by
  unfold clearTaken
  split <;> rfl

/-- FS may take tickets off its list. -/
theorem Tidy.of_fewer_tickets (h : Tidy quiet s) (fs : FiringScheduler) (fewer : fs.tickets.length ≤ s.fs.tickets.length)
    (same : fs.overflows = s.fs.overflows) : Tidy quiet { s with fs := fs } :=
  { h with
    tickets := fewer.trans h.tickets
    overflows := same.trans_le h.overflows }

theorem removePoints_tidy (i : EntryNo) : KeepsTidy quiet (removePoints i) := fun _ h =>
  h.of_fewer_tickets _ (List.length_filter_le _ _) rfl

theorem addTicket_tidy (t : Ticket) : KeepsTidy quiet (addTicket t) := by
  intro s h
  unfold addTicket
  split
  · next room => exact { h with tickets := (insertTicket_length s.stamp t _).trans_le room }
  · exact { h with overflows := satInc_le _ _ }

/-! ### Firing a point (R116 to R120) -/

theorem spend_tidy (o : Occasion) (i : EntryNo) : KeepsTidy quiet (spend o i) := fun s h =>
  postEntry_tidy _ _ i ((removePoints i s).modEntry i _) (removePoints_tidy i s h)

theorem refuseStart_tidy (o : Occasion) (i : EntryNo) : KeepsTidy quiet (refuseStart o i) := by
  intro s h
  unfold refuseStart
  split
  · exact postEntry_tidy _ o i s h
  · exact h

theorem firePointStart_tidy (o : Occasion) (i : EntryNo) : KeepsTidy quiet (firePointStart o i) := by
  intro s h
  have acted : Tidy quiet (startAction s.ctc.entries[i].image s) := h.congr (ledgerOf_startAction _ s)
  have fired : Tidy quiet
      ((postEntry .fire o i (startAction s.ctc.entries[i].image s)).modEntry i (Entry.countStart o)) :=
    (postEntry_tidy .fire o i _ acted).congr rfl
  unfold firePointStart
  simp only
  split
  · split
    · exact spend_tidy o i _ fired
    · exact fired
  · exact refuseStart_tidy o i s h

theorem fireWindowStart_tidy (o : Occasion) (i : EntryNo) : KeepsTidy quiet (fireWindowStart o i) := by
  intro s h
  unfold fireWindowStart
  simp only
  split
  · exact h
  · split
    · exact (postEntry_tidy .opened o i _ ((h.congr (t := s.modEntry i _) rfl).congr (ledgerOf_onTrack _ _ _))).congr rfl
    · exact refuseStart_tidy o i s h

theorem closeWindow_tidy (o : Occasion) (i : EntryNo) : KeepsTidy quiet (closeWindow o i) := fun s h =>
  postEntry_tidy .close o i _ ((h.congr (t := s.modEntry i _) rfl).congr (ledgerOf_onTrack _ _ _))

theorem fireWindowEnd_tidy (o : Occasion) (i : EntryNo) : KeepsTidy quiet (fireWindowEnd o i) := by
  intro s h
  unfold fireWindowEnd
  split
  · split
    · exact spend_tidy o i _ (closeWindow_tidy o i s h)
    · exact closeWindow_tidy o i s h
  · exact h

theorem fire_tidy (o : Occasion) (i : EntryNo) (pt : Point) : KeepsTidy quiet (fire o i pt) := by
  intro s h
  have taken : Tidy quiet (markTaken i pt s) := h
  unfold fire
  simp only
  split
  · split
    · exact fireWindowStart_tidy o i _ taken
    · exact fireWindowEnd_tidy o i _ taken
    · exact firePointStart_tidy o i _ taken
    · exact firePointStart_tidy o i _ taken
    · exact firePointStart_tidy o i _ taken
    · exact firePointStart_tidy o i _ taken
    · exact taken
    · exact taken
    · exact taken
    · exact taken
  · exact taken

theorem forceClose_tidy (spends : Bool) (i : EntryNo) : KeepsTidy quiet (forceClose spends i) := by
  intro s h
  unfold forceClose
  split
  · simp only
    split
    · exact spend_tidy _ i _ (closeWindow_tidy _ i s h)
    · exact closeWindow_tidy _ i s h
  · exact h

/-! ### Enumeration (R110, R111) -/

theorem enumeratePoint_tidy (b stop : Nat) (period : Option Nat) (i : EntryNo) (pt : Point) :
    KeepsTidy quiet (enumeratePoint b stop period i pt) := by
  intro s h
  unfold enumeratePoint
  split
  · exact h
  · split
    · split
      · exact fire_tidy _ i pt s h
      · split
        · exact h
        · exact addTicket_tidy _ s h
    · exact h

theorem enumerate_tidy (b stop : Nat) : KeepsTidy quiet (enumerate b stop) := by
  refine fun s h => keepsTidy_foldl (fun t i ht => ?_) allEntries s h
  unfold enumerateEntry
  split
  · exact enumeratePoint_tidy _ _ _ i _ _ (enumeratePoint_tidy _ _ _ i _ t ht)
  · exact ht

/-! ### A step at the scheduler (R105 to R110) -/

/-- The first ticket leaves the list. -/
theorem Tidy.tail (h : Tidy quiet s) {t : Ticket} {rest : List Ticket} (listed : s.fs.tickets = t :: rest) :
    Tidy quiet { s with fs := { s.fs with tickets := rest } } :=
  h.of_fewer_tickets _ (by simp [listed]) rfl

theorem flushTickets_tidy (angle fuel : Nat) : KeepsTidy quiet (flushTickets angle fuel) := by
  induction fuel with
  | zero => exact fun _ h => h
  | succ fuel ih =>
      intro s h
      unfold flushTickets
      split
      · exact h
      · next listed => exact ih _ (fire_tidy _ _ _ _ (h.tail listed))

theorem fireDeferred_tidy (angle : Nat) (cycle : Option Cycle) (fuel : Nat) :
    KeepsTidy quiet (fireDeferred angle cycle fuel) := by
  induction fuel with
  | zero => exact fun _ h => h
  | succ fuel ih =>
      intro s h
      unfold fireDeferred
      split
      · exact h
      · next rest _ => exact ih _ (fire_tidy _ _ _ { s with fs := { s.fs with deferred := rest } } h)

theorem stepFlush_tidy (angle : Nat) (cycle : Cycle) :
    KeepsTidy quiet fun s => clearTaken cycle (flushDeferred angle (flushTickets angle s.fs.tickets.length s)) :=
  fun s h => Tidy.congr (s := flushDeferred angle (flushTickets angle s.fs.tickets.length s))
    (fireDeferred_tidy angle _ _ _ (flushTickets_tidy angle _ s h)) (ledgerOf_clearTaken cycle _)

theorem stepEnumeration_tidy (rep : StepReport) : KeepsTidy quiet (stepEnumeration rep) := by
  intro s h
  unfold stepEnumeration
  split
  · exact enumerate_tidy _ _ s h
  · exact h

/-! ### The loss teardown, HOLDOVER and FREERUN_ON (R125, R127, R128) -/

/-- Parts 1 to 4 of the teardown. -/
theorem teardownParts_tidy :
    KeepsTidy quiet fun s => activateArming (applyOnLoss (forceCloseAll (discardLists s))) := by
  intro s h
  have closed : Tidy quiet (forceCloseAll (discardLists s)) :=
    keepsTidy_foldl (fun t i => forceClose_tidy true i t) allEntries _ (h.of_fewer_tickets _ (Nat.zero_le _) rfl)
  exact closed.congr ((ledgerOf_activateArming _).trans (ledgerOf_applyOnLoss _))

theorem holdoverDiscard_tidy : KeepsTidy quiet holdoverDiscard := by
  intro s h
  unfold holdoverDiscard
  simp only
  refine keepsTidy_foldl (fun t i ht => ?_) allEntries _ (keepsTidy_foldl (fun t i ht => ?_) allEntries s h)
  · split
    · exact forceClose_tidy true i t ht
    · exact ht
  · split
    · exact removePoints_tidy i t ht
    · exact ht

theorem firePassed_tidy (b fuel : Nat) : KeepsTidy quiet (firePassed b fuel) := by
  induction fuel with
  | zero => exact fun _ h => h
  | succ fuel ih =>
      intro s h
      unfold firePassed
      split
      · exact h
      · exact ih _ (fire_tidy _ _ _ _ (h.of_fewer_tickets _ List.erase_sublist.length_le rfl))

theorem retimeTickets_length (b stop period : Nat) (s : State) :
    (retimeTickets b stop period s).fs.tickets.length = s.fs.tickets.length := by
  have joined (l joins : List Ticket) :
      (joins.foldl (fun l t => insertTicket s.stamp (retimed b stop period s t) l) l).length = l.length + joins.length := by
    induction joins generalizing l with
    | nil => rfl
    | cons t rest ih =>
        rw [List.foldl_cons, ih, insertTicket_length, List.length_cons]
        omega
  exact (joined [] s.fs.tickets).trans (Nat.zero_add _)

theorem freerunRetime_tidy : KeepsTidy quiet freerunRetime := fun s h =>
  enumerate_tidy _ _ _ ((firePassed_tidy _ _ s h).of_fewer_tickets _ (retimeTickets_length _ _ _ _).le rfl)

end Quiet

end Sys2Proof.Proofs
end

section
/-! PROOFS. The claim, the read marks and the capacities, continued: what the reference path does to them (R7, R20, R41, R43,
R45, R60, R76, R179). -/

namespace Sys2Proof.Proofs

open Sys2Proof Sys2Proof.Machine Sys2Proof.Safety

section Quiet

variable {quiet : Port → Prop} {s : State}

/-! ### Period Tracker (R17 to R25) -/

/-- R20, R29: a speed step is counted, and the indication it sets has no mark. -/
theorem takeInterval_tidy (n : Nat) : KeepsTidy quiet (takeInterval n) := by
  intro s h
  unfold takeInterval
  split
  · refine { h with speedSteps := satInc_le _ _, stepSeen := fun p _ => ?_ }
    simp [ledgerOf]
  · exact h

theorem measureEdge_tidy : KeepsTidy quiet measureEdge := by
  intro s h
  unfold measureEdge
  split
  · exact h
  · split
    · exact h
    · split
      · exact h
      · split
        · unfold closeInterval
          split
          · exact takeInterval_tidy _ { s with freeCount := s.freeCount + 1 } h
          · exact takeInterval_tidy _ s h
        · exact h
        · exact h

theorem trackEdge_tidy : KeepsTidy quiet trackEdge := fun s h => (measureEdge_tidy s h).congr rfl

/-! ### Transitions of the lock state (R56, R65 to R69) -/

/-- R76: the LOCK cause is set at every port, and no LOCK mark is left. -/
theorem setLockCause_tidy : KeepsTidy quiet setLockCause := by
  refine fun s h => { h with lockMarks := fun p _ => ?_, delivery := fun p => ?_ }
  · simp [ledgerOf]
  · simpa [ledgerOf, DeliverySound] using h.delivery p

theorem moveLock_tidy (l : LockState) : KeepsTidy quiet (moveLock l) := by
  intro s h
  have moved : Tidy quiet (if depthFor s.cc.active l < depthFor s.cc.active s.ls.lock then
      trimHistory (depthFor s.cc.active l) { s with ls := { s.ls with lock := l } }
      else { s with ls := { s.ls with lock := l } }) := by
    split <;> exact h
  unfold moveLock
  simp only
  split
  · exact moved
  · exact setLockCause_tidy _ moved

theorem fall_tidy (l : LockState) : KeepsTidy quiet (fall l) := fun _ h =>
  moveLock_tidy l _ { h with cycleNoise := Nat.zero_le _, missCount := Nat.zero_le _ }

theorem goOnToStopped_tidy : KeepsTidy quiet goOnToStopped := by
  intro s h
  unfold goOnToStopped
  split
  · exact fall_tidy _ s h
  · exact h

theorem startStandstill_tidy : KeepsTidy quiet startStandstill := by
  intro s h
  unfold startStandstill
  split <;> exact h

theorem enterLocked_tidy (n : Nat) : KeepsTidy quiet (enterLocked n) := fun s h =>
  moveLock_tidy .locked { s with ls := { s.ls with settle := n } } h

theorem enterHoldover_tidy : KeepsTidy quiet enterHoldover := fun s h =>
  holdoverDiscard_tidy _ (moveLock_tidy .holdover { s with ls := { s.ls with settle := 0, holdover := 0 } } h)

/-! ### Judging steps (R59 to R67) -/

theorem noteSynth_tidy (rep : StepReport) : KeepsTidy quiet (noteSynth rep) := by
  intro s h
  unfold noteSynth
  split <;> exact h

theorem countHoldover_tidy (rep : StepReport) : KeepsTidy quiet (countHoldover rep) := by
  intro s h
  unfold countHoldover
  split <;> exact h

/-- R60: an index error is counted at a mismatch. -/
theorem judgeStep_tidy (rep : StepReport) : KeepsTidy quiet (judgeStep rep) := by
  intro s h
  unfold judgeStep
  split
  · refine { h with indexErrors := ?_ }
    show (if rep.finding = .mismatch then satInc16 s.ls.indexErrors else s.ls.indexErrors) ≤ 65535
    split
    · exact satInc_le _ _
    · exact h.indexErrors
  · exact h

theorem countSettle_tidy : KeepsTidy quiet countSettle := by
  intro s h
  unfold countSettle
  split
  · exact h
  · simp only
    split
    · exact setLockCause_tidy { s with ls := { s.ls with settle := s.ls.settle - 1 } } h
    · exact h

theorem handOverNoise_tidy (rep : StepReport) : KeepsTidy quiet (handOverNoise rep) := by
  intro s h
  unfold handOverNoise
  split
  · exact { h with cycleNoise := Nat.zero_le _ }
  · exact h

/-! ### Edges (R7, R11, R14, R45, R57) -/

theorem realEdgeNotice_tidy : KeepsTidy quiet realEdgeNotice := by
  intro s h
  unfold realEdgeNotice
  simp only
  split
  · exact fall_tidy .search (setStandstill (.running 0) s) h
  · exact h

theorem indexArrival_tidy : KeepsTidy quiet indexArrival := by
  intro s h
  rw [indexArrival_eq]
  split
  · exact h
  · split
    · exact { h with indexNoise := Nat.min_le_right _ _ }
    · exact h

theorem ledgerOf_setLine (line : LineId) (f : FilterLine → FilterLine) (s : State) :
    ledgerOf (setLine line f s) = ledgerOf s := by
  rw [setLine_frame]
  rfl

/-- R14: the latches that a gate input sets have no mark. -/
theorem reevaluateGate_tidy (n : GateNo) : KeepsTidy quiet (reevaluateGate n) := by
  intro s h
  unfold reevaluateGate
  split
  · exact h
  · have latched (q : EdgeQualifier) (same : ledgerOf { s with eq := q } = ledgerOf s) :
        Tidy quiet { s with eq := { q with latches := vall s.eq.latches fun l => vmod l n fun _ => ⟨true, false⟩ } } := by
      refine { h.congr same with latches := fun p hq m => ?_ }
      show ((vall s.eq.latches fun l => vmod l n fun _ => ⟨true, false⟩)[p])[m].mark = false
      rw [vall_at, vmod_at]
      split
      · rfl
      · exact h.latches p hq m
    unfold gateChanged
    simp only
    split
    · exact post_tidy _ _ (latched _ rfl)
    · exact latched _ rfl

/-! ### Operations that hand on to FS, for any application of a commit that keeps the law -/

section Application

variable {ap : State → State} (keeps : KeepsTidy quiet ap)

include keeps

theorem departFrom_tidy (before : State) : KeepsTidy quiet (departFrom ap before) := by
  intro s h
  unfold departFrom
  split
  · exact keeps _ (teardownParts_tidy s h)
  · exact h

theorem enterSearch_tidy : KeepsTidy quiet (enterSearch ap) := fun s h =>
  goOnToStopped_tidy _ (departFrom_tidy keeps s _ (startStandstill_tidy _ (fall_tidy _ s h)))

theorem enterAcquire_tidy : KeepsTidy quiet (enterAcquire ap) := fun s h =>
  goOnToStopped_tidy _ (departFrom_tidy keeps s _
    (moveLock_tidy .acquire { s with ls := { s.ls with clean := 0, settle := 0, synthInCycle := false } } h))

theorem restart_tidy : KeepsTidy quiet (restart ap) := fun s h =>
  departFrom_tidy keeps s _ ((fall_tidy .stopped s h).congr rfl)

theorem standstillExpires_tidy : KeepsTidy quiet (standstillExpires ap) := by
  intro s h
  have expired : Tidy quiet (setStandstill .expired s) := h
  unfold standstillExpires
  simp only
  split
  · exact fall_tidy _ _ expired
  · exact fall_tidy _ _ expired
  · split
    · exact enterSearch_tidy keeps _ expired
    · exact expired
  · split
    · exact enterSearch_tidy keeps _ expired
    · exact expired
  · exact expired
  · exact expired

theorem stepInAcquire_tidy (rep : StepReport) : KeepsTidy quiet (stepInAcquire ap rep) := by
  intro s h
  have judged := judgeStep_tidy rep _ (noteSynth_tidy rep s h)
  unfold stepInAcquire
  simp only
  split
  · exact enterSearch_tidy keeps _ judged
  · split
    · exact enterLocked_tidy _ _ judged
    · exact judged

theorem stepInLocked_tidy (rep : StepReport) : KeepsTidy quiet (stepInLocked ap rep) := by
  intro s h
  have judged := judgeStep_tidy rep _ (noteSynth_tidy rep s h)
  unfold stepInLocked
  simp only
  split
  · exact enterAcquire_tidy keeps _ judged
  · split
    · exact enterHoldover_tidy _ judged
    · split
      · exact countSettle_tidy _ judged
      · exact judged

theorem stepInHoldover_tidy (rep : StepReport) : KeepsTidy quiet (stepInHoldover ap rep) := by
  intro s h
  have judged := judgeStep_tidy rep _ (countHoldover_tidy rep _ (noteSynth_tidy rep s h))
  unfold stepInHoldover
  simp only
  split
  · exact enterSearch_tidy keeps _ judged
  · split
    · exact enterAcquire_tidy keeps _ judged
    · split
      · exact enterLocked_tidy _ _ judged
      · exact judged

theorem supervise_tidy (rep : StepReport) : KeepsTidy quiet (supervise ap rep) := by
  intro s h
  unfold supervise
  split
  · exact h
  · split
    · exact enterAcquire_tidy keeps s h
    · exact h
  · exact stepInAcquire_tidy keeps rep s h
  · exact stepInLocked_tidy keeps rep s h
  · exact stepInHoldover_tidy keeps rep s h
  · exact h

/-! ### A step (R35, R41, R43, R105) -/

theorem stepActivation_tidy (rep : StepReport) : KeepsTidy quiet (stepActivation ap rep) := by
  intro s h
  unfold stepActivation
  split
  · exact keeps _ (h.congr (ledgerOf_activateArming s))
  · exact h

theorem schedulerStep_tidy (rep : StepReport) : KeepsTidy quiet (schedulerStep ap rep) := fun s h =>
  stepEnumeration_tidy rep _ (stepActivation_tidy keeps rep _ (stepFlush_tidy _ _ s h))

theorem handStep_tidy (rep : StepReport) : KeepsTidy quiet (handStep ap rep) := fun s h =>
  schedulerStep_tidy keeps rep _ (supervise_tidy keeps rep _ (handOverNoise_tidy rep s h))

theorem realStep_tidy : KeepsTidy quiet (realStep ap) := fun _ h =>
  handStep_tidy keeps _ _ { h with missCount := Nat.zero_le _ }

theorem alignStep_tidy : KeepsTidy quiet (alignStep ap) := fun _ h =>
  handStep_tidy keeps _ _ { h with missCount := Nat.zero_le _ }

omit keeps in
theorem lateAcceptance_tidy : KeepsTidy quiet lateAcceptance := fun _ h =>
  { h with missCount := Nat.zero_le _, lateTeeth := satInc_le _ _ }

theorem synthStep_tidy : KeepsTidy quiet (synthStep ap) := fun _ h =>
  handStep_tidy keeps _ _ { h with missCount := satInc_le _ _, totalMisses := satInc_le _ _ }

theorem freeRunStep_tidy : KeepsTidy quiet (freeRunStep ap) := fun s h =>
  handStep_tidy keeps _ (beginTooth _ s) h

/-! ### An edge on its way (R4 to R13, R38) -/

theorem generatorEdge_tidy : KeepsTidy quiet (generatorEdge ap) := by
  intro s h
  have noticed : Tidy quiet { realEdgeNotice s with ag := { (realEdgeNotice s).ag with synthSinceReal := false } } :=
    (realEdgeNotice_tidy s h).congr rfl
  have moved : Tidy quiet (if inLateWindow s then
      lateAcceptance { realEdgeNotice s with ag := { (realEdgeNotice s).ag with synthSinceReal := false } }
      else realStep ap { realEdgeNotice s with ag := { (realEdgeNotice s).ag with synthSinceReal := false } }) := by
    split
    · exact lateAcceptance_tidy _ noticed
    · exact realStep_tidy keeps _ noticed
  unfold generatorEdge
  simp only
  split
  · exact noticed
  · split
    · exact alignStep_tidy keeps _ noticed
    · exact noticed
  · exact moved
  · exact moved
  · exact moved
  · exact noticed

/-- R7: a noise edge adds one to both counts. -/
theorem toothEdge_tidy : KeepsTidy quiet (toothEdge ap) := by
  intro s h
  unfold toothEdge
  split
  · exact { h with cycleNoise := satInc_le _ _, totalNoise := satInc_le _ _ }
  · exact generatorEdge_tidy keeps (openBlanking (trackEdge s)) (trackEdge_tidy s h)

theorem edgeArrives_tidy (line : LineId) : KeepsTidy quiet (edgeArrives ap line) := by
  intro s h
  unfold edgeArrives
  split
  · split
    · exact toothEdge_tidy keeps s h
    · exact h
  · split
    · exact indexArrival_tidy s h
    · exact h
  · exact h

theorem filteredTransition_tidy (line : LineId) : KeepsTidy quiet (filteredTransition ap line) := by
  intro s h
  have settled (l : LineId) : Tidy quiet (settleLine l s) := h.congr (ledgerOf_setLine l _ s)
  unfold filteredTransition
  split
  · exact reevaluateGate_tidy _ _ (settled _)
  · exact edgeArrives_tidy keeps _ _ (settled _)
  · exact edgeArrives_tidy keeps _ _ (settled _)

end Application

/-! ### Applying a record (R3, R13, R179) -/

theorem keepsTidy_id : KeepsTidy quiet id := fun _ h => h

theorem classAEffects_tidy : KeepsTidy quiet classAEffects := by
  intro s h
  have flushed : Tidy quiet (flushHistory (clearCycleNoise s)) := { h with cycleNoise := Nat.zero_le _ }
  have fallen (u : State) (hu : Tidy quiet u) : Tidy quiet (setStandstill (.running 0) (fall .search u)) :=
    fall_tidy .search u hu
  unfold classAEffects classALock
  simp only
  split
  · exact flushed
  · exact fallen _ flushed
  · exact departFrom_tidy keepsTidy_id _ _ (fallen _ flushed)
  · exact departFrom_tidy keepsTidy_id _ _ (fallen _ flushed)
  · exact departFrom_tidy keepsTidy_id _ _ (fallen _ flushed)
  · exact flushed

theorem reevaluateDepth_tidy (old : RefConfig) : KeepsTidy quiet (reevaluateDepth old) := by
  intro s h
  unfold reevaluateDepth
  split <;> exact h

theorem judgeStandstillLimit_tidy : KeepsTidy quiet judgeStandstillLimit := by
  intro s h
  unfold judgeStandstillLimit
  simp only
  split
  · exact standstillExpires_tidy keepsTidy_id _ h
  · exact h

theorem expireAtApplication_tidy (line : LineId) (h : Tidy quiet s) : Tidy quiet (expireAtApplication s line) := by
  unfold expireAtApplication
  split
  · exact edgeArrives_tidy keepsTidy_id line _ (h.congr (ledgerOf_setLine line _ s))
  · exact h

theorem requalify_tidy (old : RefConfig) : KeepsTidy quiet (requalify old) := by
  intro s h
  unfold requalify
  refine keepsTidy_foldl (fun u n hu => reevaluateGate_tidy n u hu) _ _ ?_
  exact keepsTidy_foldl (fun u line hu => expireAtApplication_tidy line hu) _ _ h

theorem carryOutChange_tidy (old new : RefConfig) : KeepsTidy quiet (carryOutChange old new) := by
  intro s h
  have classA : Tidy quiet (if classAChanged old new then classAEffects s else s) := by
    split
    · exact classAEffects_tidy s h
    · exact h
  have depths (t : State) (ht : Tidy quiet t) : Tidy quiet
      (if old.acquireDepth ≠ new.acquireDepth ∨ old.lockedDepth ≠ new.lockedDepth then reevaluateDepth old t else t) := by
    split
    · exact reevaluateDepth_tidy old t ht
    · exact ht
  unfold carryOutChange
  simp only
  refine requalify_tidy old _ ?_
  split
  · exact judgeStandstillLimit_tidy _ (depths _ classA)
  · exact depths _ classA

/-- R161, R172: the CLAIM cause is set, and its mark goes. -/
theorem setClaimCause_tidy (p : Port) : KeepsTidy quiet (setClaimCause p) := by
  refine fun s h => { h with claimMarks := fun q hq => ?_, delivery := fun q => ?_ }
  · show (vmod s.cc.claimMarks p _)[q] = false
    rw [vmod_at]
    split
    · rfl
    · exact h.claimMarks q hq
  · show DeliverySound (quiet q) (vmod s.er p _)[q]
    rw [vmod_at]
    split <;> exact h.delivery q

/-- R179: the holder, who has a staged copy, gets a fresh one. -/
theorem tellHolder_tidy : KeepsTidy quiet tellHolder := by
  intro s h
  unfold tellHolder
  split
  · exact h
  · next holder held =>
      refine setClaimCause_tidy holder _ { h with staged := ?_ }
      show true = s.cc.holder.isSome
      rw [held]
      rfl

theorem applyRecord_tidy (new : RefConfig) : KeepsTidy quiet (applyRecord new) := by
  intro s h
  unfold applyRecord
  simp only
  refine tellHolder_tidy _ ?_
  split
  · exact h
  · exact carryOutChange_tidy _ _ _ h

theorem applyPending_tidy : KeepsTidy quiet applyPending := by
  intro s h
  unfold applyPending
  split
  · exact h
  · exact applyRecord_tidy _ s h

/-! ### FREERUN_ON and the raw levels (R2, R50, R70) -/

theorem startFreeRun_tidy : KeepsTidy quiet startFreeRun := by
  intro s h
  have moved : Tidy quiet (moveLock .freerun { s with ls := { s.ls with settle := 0, synthInCycle := false } }) :=
    moveLock_tidy _ _ (h.congr rfl)
  unfold startFreeRun
  simp only
  split
  · exact freerunRetime_tidy _ { moved with missCount := Nat.zero_le _ }
  · exact handStep_tidy applyPending_tidy _ _ { moved with missCount := Nat.zero_le _ }

theorem rawChange_tidy (line : LineId) (level : Bool) : KeepsTidy quiet (rawChange line level) := by
  intro s h
  have set (f : FilterLine → FilterLine) : Tidy quiet (setLine line f s) := h.congr (ledgerOf_setLine line f s)
  unfold rawChange
  split
  · exact h
  · split
    · split
      · exact set _
      · exact filteredTransition_tidy applyPending_tidy line _ (set _)
    · exact set _

end Quiet

end Sys2Proof.Proofs
end

section
/-! PROOFS. The claim, the read marks and the capacities, continued: what the requests do to them (R14, R29, R78, R156, R157,
R160, R162, R167 to R178, R193). -/

namespace Sys2Proof.Proofs

open Sys2Proof Sys2Proof.Machine Sys2Proof.Safety

/-! ### Checks that requests share (R133) -/

theorem onTrackNo_elim {Q : State → Prop} {track : Byte} {s : State} {f : TrackNo → State × Reply} (h : Q s)
    (hf : ∀ k : TrackNo, Q (f k).1) : Q (onTrackNo track s f).1 := by
  unfold onTrackNo
  split
  · exact h
  · exact hf _

theorem onOwnTrack_elim {Q : State → Prop} {p : Port} {track : Byte} {s : State} {f : TrackNo → State × Reply} (h : Q s)
    (hf : ∀ k : TrackNo, Q (f k).1) : Q (onOwnTrack p track s f).1 := by
  refine onTrackNo_elim h fun k => ?_
  split
  · exact hf k
  · exact h

section Quiet

variable {quiet : Port → Prop} {s : State}

/-! ### Requests on the reference (R70, R72, R73, R78) -/

theorem actFreerunOff_tidy (p : Port) (h : Tidy quiet s) : Tidy quiet (actFreerunOff p s).1 := by
  refine holderOnly_elim h ?_
  split
  · exact enterSearch_tidy applyPending_tidy s h
  · exact h

theorem actClearCounters_tidy (p : Port) (h : Tidy quiet s) : Tidy quiet (actClearCounters p s).1 :=
  holderOnly_elim h
    { h with
      totalNoise := Nat.zero_le _
      totalMisses := Nat.zero_le _
      lateTeeth := Nat.zero_le _
      indexNoise := Nat.zero_le _
      indexErrors := Nat.zero_le _
      speedSteps := Nat.zero_le _
      overflows := Nat.zero_le _ }

/-! ### Requests on entries (R85 to R97) -/

theorem actAllocEntry_tidy (p : Port) (h : Tidy quiet s) : Tidy quiet (actAllocEntry p s).1 := by
  unfold actAllocEntry
  split
  · exact h
  · split <;> exact h

theorem actWriteEntry_tidy (p : Port) (index : Byte) (image : RawImage) (h : Tidy quiet s) :
    Tidy quiet (actWriteEntry p index image s).1 := by
  refine onOwnEntry_elim h fun i => ?_
  split
  · split <;> exact h
  · exact h

theorem actArmEntry_tidy (p : Port) (index : Byte) (h : Tidy quiet s) : Tidy quiet (actArmEntry p index s).1 := by
  refine onOwnEntry_elim h fun i => ?_
  split
  · split <;> exact h
  · exact h

theorem withdrawEntry_tidy (i : EntryNo) : KeepsTidy quiet (withdrawEntry i) := fun s h =>
  forceClose_tidy false i _ (removePoints_tidy i s h)

theorem actHoldEntry_tidy (p : Port) (index : Byte) (h : Tidy quiet s) : Tidy quiet (actHoldEntry p index s).1 := by
  refine onOwnEntry_elim h fun i => ?_
  split
  · exact (withdrawEntry_tidy i s h).congr rfl
  · exact h

theorem freeOne_tidy (i : EntryNo) : KeepsTidy quiet (freeOne i) := by
  intro s h
  refine Tidy.congr (s := if _ then withdrawEntry i s else s) ?_ rfl
  split
  · exact withdrawEntry_tidy i s h
  · exact h

theorem pauseNow_tidy (i : EntryNo) (had : Bool) : KeepsTidy quiet (pauseNow i had) := by
  intro s h
  unfold pauseNow
  split
  · exact forceClose_tidy true i _ (removePoints_tidy i s h)
  · exact h

theorem actModifyFlags_tidy (p : Port) (index setMask clearMask : Byte) (h : Tidy quiet s) :
    Tidy quiet (actModifyFlags p index setMask clearMask s).1 := by
  refine onOwnEntry_elim h fun i => ?_
  split
  · exact h
  · exact pauseNow_tidy i _ (s.modEntry i _) h

/-! ### Requests on tracks (R133 to R137) -/

theorem actAssignTrack_tidy (p : Port) (track : Byte) (h : Tidy quiet s) : Tidy quiet (actAssignTrack p track s).1 := by
  refine onTrackNo_elim h fun k => ?_
  split
  · exact h
  · split <;> exact h

theorem actReleaseTrack_tidy (p : Port) (track : Byte) (h : Tidy quiet s) : Tidy quiet (actReleaseTrack p track s).1 := by
  refine onOwnTrack_elim h fun k => ?_
  split <;> exact h

theorem actSetTrack_tidy (p : Port) (track polarity safe onLoss : Byte) (h : Tidy quiet s) :
    Tidy quiet (actSetTrack p track polarity safe onLoss s).1 := by
  refine onOwnTrack_elim h fun k => ?_
  split <;> exact h

theorem actDriveTrack_tidy (p : Port) (track value : Byte) (h : Tidy quiet s) : Tidy quiet (actDriveTrack p track value s).1 := by
  refine onOwnTrack_elim h fun k => ?_
  split <;> exact h

/-! ### Requests on event delivery (R151 to R162) -/

theorem modEvents_tidy (h : Tidy quiet s) (p : Port) {f : EventPort → EventPort}
    (sound : DeliverySound (quiet p) (f s.er[p])) : Tidy quiet (s.modEvents p f) := by
  refine { h with delivery := fun q => ?_ }
  show DeliverySound (quiet q) (vmod s.er p f)[q]
  rw [vmod_at]
  split
  · next same => exact same ▸ sound
  · exact h.delivery q

/-- R156: the record that is marked is on the queue. -/
theorem actPopEvent_tidy {p : Port} (busy : ¬quiet p) (h : Tidy quiet s) : Tidy quiet (actPopEvent p s).1 := by
  unfold actPopEvent
  split
  · exact h
  · next listed =>
      exact modEvents_tidy h p ⟨(h.delivery p).1,
        fun _ empty => absurd (listed.symm.trans empty) (List.cons_ne_nil _ _), fun free => absurd free busy⟩

theorem actReadQueueInfo_tidy {p : Port} (busy : ¬quiet p) (h : Tidy quiet s) : Tidy quiet (actReadQueueInfo p s).1 :=
  modEvents_tidy h p ⟨(h.delivery p).1, (h.delivery p).2.1, fun free => absurd free busy⟩

theorem actReadLatest_tidy {p : Port} (busy : ¬quiet p) (slot : Byte) (h : Tidy quiet s) :
    Tidy quiet (actReadLatest p slot s).1 := by
  unfold actReadLatest
  split
  · exact h
  · split
    · exact h
    · exact modEvents_tidy h p ⟨(h.delivery p).1, (h.delivery p).2.1, fun free => absurd free busy⟩

theorem actWriteSlot_tidy {p : Port} (busy : ¬quiet p) (slot : Byte) (image : RawSlot) (h : Tidy quiet s) :
    Tidy quiet (actWriteSlot p slot image s).1 := by
  unfold actWriteSlot
  split
  · exact modEvents_tidy h p ⟨(h.delivery p).1, (h.delivery p).2.1, fun free => absurd free busy⟩
  · exact h
  · exact h

theorem actSetPortMask_tidy (p : Port) (mask : Byte) (h : Tidy quiet s) : Tidy quiet (actSetPortMask p mask s).1 :=
  modEvents_tidy h p (h.delivery p)

theorem range_of_watermarkOf {b : Byte} {w : Nat} (h : watermarkOf b = some w) : 1 ≤ w ∧ w ≤ 16 := by
  unfold watermarkOf at h
  split at h
  · next range => exact Option.some.inj h ▸ range
  · cases h

/-- R162: the watermark lies between 1 and 16. -/
theorem actSetAttnMask_tidy (p : Port) (causes : BitVec 16) (watermark : Byte) (h : Tidy quiet s) :
    Tidy quiet (actSetAttnMask p causes watermark s).1 := by
  obtain ⟨⟨queue, lost, -⟩, popped, marks⟩ := h.delivery p
  unfold actSetAttnMask
  split
  · next given => exact modEvents_tidy h p ⟨⟨queue, lost, range_of_watermarkOf given⟩, popped, marks⟩
  · exact h
  · exact h

/-! ### Reads that mark (R14, R29, R76, R172) -/

/-- Where a port that is not quiet changes in a vector, the places of the quiet ones stay. -/
theorem vmod_of_quiet {α : Type} {p q : Port} (busy : ¬quiet p) (free : quiet q) (v : Vector α 4) (f : α → α) :
    (vmod v p f)[q] = v[q] :=
  vmod_ne v p q f fun same => busy (same ▸ free)

theorem actReadStatus_tidy {p : Port} (busy : ¬quiet p) (h : Tidy quiet s) : Tidy quiet (actReadStatus p s).1 := by
  refine { h with stepSeen := fun q free => ?_, lockMarks := fun q free => ?_ }
  · exact (congrArg Marked.mark (vmod_of_quiet busy free _ _)).trans (h.stepSeen q free)
  · exact (vmod_of_quiet busy free _ _).trans (h.lockMarks q free)

theorem actReadInputs_tidy {p : Port} (busy : ¬quiet p) (h : Tidy quiet s) : Tidy quiet (actReadInputs p s).1 :=
  { h with latches := fun q free n =>
      (congrArg (fun l : Vector Marked 4 => l[n].mark) (vmod_of_quiet busy free _ _)).trans (h.latches q free n) }

theorem actReadClaim_tidy {p : Port} (busy : ¬quiet p) (h : Tidy quiet s) : Tidy quiet (actReadClaim p s).1 :=
  { h with claimMarks := fun q free => (vmod_of_quiet busy free _ _).trans (h.claimMarks q free) }

/-! ### The claim (R167 to R170) -/

/-- R168: the claim goes to a port that does not wait for it. -/
theorem grantClaim_tidy {p : Port} (h : Tidy quiet s) (free : p ∉ s.cc.waiting) : Tidy quiet (grantClaim p s) :=
  setClaimCause_tidy p _
    { h with
      holderWaitsNot := fun _ e => Option.some.inj e ▸ free
      nobodyWaits := fun e => absurd e (Option.some_ne_none p)
      staged := rfl }

theorem noteDiscarded_tidy (p : Port) : KeepsTidy quiet (noteDiscarded p) := by
  intro s h
  unfold noteDiscarded
  split
  · exact h
  · split
    · exact h
    · exact setClaimCause_tidy p s h

/-- R170: the oldest waiter, who waits no more, takes the claim; with no waiter there is no holder. -/
theorem passClaim_tidy : KeepsTidy quiet passClaim := by
  intro s h
  unfold passClaim
  split
  · next none =>
      exact { h with
        holderWaitsNot := fun _ e => absurd e.symm (Option.some_ne_none _)
        nobodyWaits := fun _ => none
        staged := rfl }
  · next q rest waiting =>
      have once : (q :: rest).Nodup := waiting ▸ h.waitsOnce
      have shorter : Tidy quiet { s with cc := { s.cc with waiting := rest } } :=
        { h with
          waitsOnce := once.of_cons
          holderWaitsNot := fun p e waits => by
            have waited : p ∈ s.cc.waiting := by
              rw [waiting]
              exact List.mem_cons_of_mem q waits
            exact h.holderWaitsNot p e waited
          nobodyWaits := fun e => absurd (waiting.symm.trans (h.nobodyWaits e)) (List.cons_ne_nil q rest) }
      exact grantClaim_tidy shorter (List.nodup_cons.1 once).1

theorem giveUpClaim_tidy (p : Port) : KeepsTidy quiet (giveUpClaim p) := fun s h =>
  passClaim_tidy _ (noteDiscarded_tidy p s h)

theorem leaveWaiting_tidy (p : Port) : KeepsTidy quiet (leaveWaiting p) := fun s h =>
  { h with
    waitsOnce := h.waitsOnce.filter _
    holderWaitsNot := fun q e waits => h.holderWaitsNot q e (List.mem_of_mem_filter waits)
    nobodyWaits := fun e => by
      show s.cc.waiting.filter _ = []
      rw [show s.cc.waiting = [] from h.nobodyWaits e]
      rfl }

/-- R168: a port joins the list where another port holds the claim and it does not wait yet. -/
theorem actRequestClaim_tidy (p : Port) (h : Tidy quiet s) : Tidy quiet (actRequestClaim p s).1 := by
  unfold actRequestClaim
  split
  · next free =>
      refine grantClaim_tidy h ?_
      rw [show s.cc.waiting = [] from h.nobodyWaits free]
      exact List.not_mem_nil
  · next holder held =>
      split
      · exact h
      · next other =>
          split
          · exact h
          · next new =>
              refine { h with waitsOnce := ?_, holderWaitsNot := fun q e => ?_, nobodyWaits := fun e => ?_ }
              · exact List.nodup_append.2 ⟨h.waitsOnce, List.nodup_singleton p,
                  fun a waits b joins same => new (List.mem_singleton.1 joins ▸ same ▸ waits)⟩
              · obtain rfl : holder = q := Option.some.inj (held.symm.trans e)
                show holder ∉ s.cc.waiting ++ [p]
                rw [List.mem_append, List.mem_singleton]
                exact not_or.2 ⟨h.holderWaitsNot holder held, other⟩
              · exact absurd (held.symm.trans e) (Option.some_ne_none holder)

theorem actWithdraw_tidy (p : Port) (h : Tidy quiet s) : Tidy quiet (actWithdraw p s).1 := by
  unfold actWithdraw
  split
  · exact leaveWaiting_tidy p s h
  · exact h

theorem actReleaseClaim_tidy (p : Port) (h : Tidy quiet s) : Tidy quiet (actReleaseClaim p s).1 := by
  unfold actReleaseClaim
  split
  · exact giveUpClaim_tidy p s h
  · exact h

/-! ### The shared configuration (R175 to R182): the holder's staged copy stays present -/

theorem Tidy.of_staged (h : Tidy quiet s) {p : Port} (held : s.cc.holder = some p) (c pending : Option RefConfig)
    (present : c.isSome = true) : Tidy quiet { s with cc := { s.cc with staged := c, pendingRecord := pending } } := by
  refine { h with staged := ?_ }
  show c.isSome = s.cc.holder.isSome
  rw [held, present]
  rfl

theorem holderOnly_elim_of_holder {Q : State → Prop} {p : Port} {s : State} {r : State × Reply} (h : Q s)
    (hr : s.cc.holder = some p → Q r.1) : Q (holderOnly p s r).1 := by
  unfold holderOnly
  split
  · next held => exact hr held
  · exact h

theorem actStageParam_tidy (p : Port) (id : Byte) (value : BitVec 24) (h : Tidy quiet s) :
    Tidy quiet (actStageParam p id value s).1 := by
  refine holderOnly_elim_of_holder h fun held => ?_
  split
  · exact h
  · split
    · split
      · exact h
      · next d _ => exact h.of_staged held (some d) s.cc.pendingRecord rfl
    · exact h
    · exact h

theorem actCommit_tidy (p : Port) (h : Tidy quiet s) : Tidy quiet (actCommit p s).1 := by
  refine holderOnly_elim h ?_
  split
  · exact h
  · exact h
  · split
    · exact h
    · exact applyRecord_tidy _ s h

theorem actDiscard_tidy (p : Port) (h : Tidy quiet s) : Tidy quiet (actDiscard p s).1 :=
  holderOnly_elim_of_holder h fun held => h.of_staged held (some s.cc.active) s.cc.pendingRecord rfl

theorem actSetQuota_tidy (p : Port) (target quota : Byte) (h : Tidy quiet s) : Tidy quiet (actSetQuota p target quota s).1 := by
  refine holderOnly_elim h ?_
  split
  · exact h
  · split <;> exact h

/-! ### DETACH (R193) -/

theorem ledgerOf_modOwned (p : Port) (f : Nat → Nat) (s : State) :
    ledgerOf (modOwned p f s) = ledgerOf s := rfl

theorem ledgerOf_releaseTracksOf (p : Port) (s : State) : ledgerOf (releaseTracksOf p s) = ledgerOf s := rfl

theorem ledgerOf_modPort (p : Port) (f : PortInterface → PortInterface) (s : State) :
    ledgerOf (s.modPort p f) = ledgerOf s := rfl

theorem detachEntries_tidy (p : Port) : KeepsTidy quiet (detachEntries p) := by
  intro s h
  have freed (t : State) (i : EntryNo) (ht : Tidy quiet t) : Tidy quiet (freeIfOwned p t i) := by
    unfold freeIfOwned
    split
    · exact freeOne_tidy i t ht
    · exact ht
  rw [detachEntries_eq, Tidy, ledgerOf_modOwned]
  exact keepsTidy_foldl freed allEntries s h

/-- One port's mark of the CLAIM cause removed. -/
theorem Tidy.of_claimMark (h : Tidy quiet s) (p : Port) :
    Tidy quiet { s with cc := { s.cc with claimMarks := vmod s.cc.claimMarks p fun _ => false } } := by
  refine { h with claimMarks := fun q free => ?_ }
  show (vmod s.cc.claimMarks p _)[q] = false
  rw [vmod_at]
  split
  · rfl
  · exact h.claimMarks q free

theorem detachClaim_tidy (p : Port) : KeepsTidy quiet (detachClaim p) := by
  intro s h
  refine (leaveWaiting_tidy p _ ?_).of_claimMark p
  split
  · exact giveUpClaim_tidy p s h
  · exact h

/-- R16, R33, R79: p's latches, indication and marks go. -/
theorem detachMarks_tidy (p : Port) : KeepsTidy quiet (detachMarks p) := by
  refine fun s h => { h with latches := fun q free n => ?_, stepSeen := fun q free => ?_, lockMarks := fun q free => ?_ }
  · show (vmod s.eq.latches p _)[q][n].mark = false
    rw [vmod_at]
    split
    · simp
    · exact h.latches q free n
  · show (vmod s.pt.stepSeen p _)[q].mark = false
    rw [vmod_at]
    split
    · rfl
    · exact h.stepSeen q free
  · show (vmod s.ls.lockMarks p _)[q] = false
    rw [vmod_at]
    split
    · rfl
    · exact h.lockMarks q free

theorem deliverySound_default (free : Prop) : DeliverySound free EventPort.default := by
  simp [DeliverySound, EventPort.default, LatestRegister.empty]

theorem actDetach_tidy (p : Port) (h : Tidy quiet s) : Tidy quiet (actDetach p s).1 := by
  have entries : Tidy quiet (releaseTracksOf p (detachEntries p s)) :=
    (detachEntries_tidy p s h).congr (ledgerOf_releaseTracksOf p _)
  have marks := detachMarks_tidy p _ (detachClaim_tidy p _ entries)
  exact (modEvents_tidy marks p (f := fun _ => EventPort.default) (deliverySound_default _)).congr
    (ledgerOf_modPort p _ _)

/-! ### Every request -/

/-- A request of a port that may have marks keeps the law. -/
theorem requestAct_tidy {i : Instr} {act : State → State × Reply} {p : Port} {bytes : List Byte}
    (e : requestAct i = some act) (carried : encodeRequest i = some (p, bytes)) (busy : ¬quiet p) (h : Tidy quiet s) :
    Tidy quiet (act s).1 := by
  cases i <;> simp only [requestAct, Option.some.injEq, reduceCtorEq] at e <;> subst e
  case unknownCode | nop | readAttn => exact h
  all_goals
    simp only [encodeRequest, Option.some.injEq, Prod.mk.injEq] at carried
    obtain ⟨rfl, -⟩ := carried
  case detach => exact actDetach_tidy _ h
  case readStatus => exact actReadStatus_tidy busy h
  case readInputs => exact actReadInputs_tidy busy h
  case freerunOn => exact holderOnly_elim h (startFreeRun_tidy s h)
  case freerunOff => exact actFreerunOff_tidy _ h
  case restartReference => exact holderOnly_elim h (restart_tidy applyPending_tidy s h)
  case clearCounters => exact actClearCounters_tidy _ h
  case allocEntry => exact actAllocEntry_tidy _ h
  case writeEntry => exact actWriteEntry_tidy _ _ _ h
  case armEntry => exact actArmEntry_tidy _ _ h
  case holdEntry => exact actHoldEntry_tidy _ _ h
  case freeEntry => exact onOwnEntry_elim h fun i => (freeOne_tidy i s h).congr rfl
  case modifyFlags => exact actModifyFlags_tidy _ _ _ _ h
  case assignTrack => exact actAssignTrack_tidy _ _ h
  case releaseTrack => exact actReleaseTrack_tidy _ _ h
  case setTrack => exact actSetTrack_tidy _ _ _ _ _ h
  case driveTrack => exact actDriveTrack_tidy _ _ _ h
  case readTrack => exact onTrackNo_elim h fun _ => h
  case popEvent => exact actPopEvent_tidy busy h
  case readQueueInfo => exact actReadQueueInfo_tidy busy h
  case readLatest => exact actReadLatest_tidy busy _ h
  case writeSlot => exact actWriteSlot_tidy busy _ _ h
  case setPortMask => exact actSetPortMask_tidy _ _ h
  case setAttnMask => exact actSetAttnMask_tidy _ _ _ h
  case requestClaim => exact actRequestClaim_tidy _ h
  case withdraw => exact actWithdraw_tidy _ h
  case releaseClaim => exact actReleaseClaim_tidy _ h
  case readClaim => exact actReadClaim_tidy busy h
  case stageParam => exact actStageParam_tidy _ _ _ h
  case commit => exact actCommit_tidy _ h
  case discard => exact actDiscard_tidy _ h
  case setQuota => exact actSetQuota_tidy _ _ _ h
  case readEntry | readSlot | readParam =>
    simp only [actReadEntry, actReadSlot, actReadParam]
    split <;> exact h

end Quiet

end Sys2Proof.Proofs
end

section
/-! PROOFS. The claim, the ports, the read marks and the capacities, continued: frames and their requests, the events, device
reset, and every step (R185, R186, R188, R190, R195; log entry 9). -/

namespace Sys2Proof.Proofs

open Sys2Proof Sys2Proof.Machine Sys2Proof.Safety

/-! ### The ports' law -/

/-- The law of one port, by the level of RESET_n. -/
def PortSound (low : Bool) (q : PortInterface) : Prop :=
  (q.sdo = none ↔ q.framing = .idle ∨ low = true)
    ∧ (q.framing = .responding → q.shifted < 8 * q.response.length)
    ∧ q.frameErrors ≤ 255

theorem portsSound_iff (s : State) : PortsSound s ↔ ∀ p : Port, PortSound s.resetLow s.pi[p] := Iff.rfl

/-- The four laws as laws of the ledger and of the ports. -/
structure Laws (s : State) : Prop where
  tidy : Tidy (Quiet s) s
  ports : PortsSound s

theorem laws_iff (s : State) : Laws s ↔ ClaimSound s ∧ PortsSound s ∧ MarksSound s ∧ WithinCapacity s := by
  have tidy := tidy_iff s
  constructor
  · intro h
    obtain ⟨claim, marks, capacity⟩ := tidy.1 h.tidy
    exact ⟨claim, h.ports, marks, capacity⟩
  · rintro ⟨claim, ports, marks, capacity⟩
    exact ⟨tidy.2 ⟨claim, marks, capacity⟩, ports⟩

/-- What the ports' law reads of a state. -/
def portsOf (s : State) : Bool × Vector PortInterface 4 := (s.resetLow, s.pi)

theorem portsOf_of_frame {s t : State} (h : FiringFrame s t) : portsOf t = portsOf s :=
  congrArg₂ Prod.mk h.resetLow h.pi

theorem portsOf_of_reference {s t : State} (h : ReferenceFrame s t) : portsOf t = portsOf s :=
  congrArg₂ Prod.mk h.resetLow h.pi

theorem Laws.of_portsOf {s t : State} (h : Laws s) (tidy : Tidy (Quiet s) t) (same : portsOf t = portsOf s) : Laws t := by
  obtain ⟨low, ports⟩ := Prod.mk.inj same
  have frame (p : Port) : t.pi[p] = s.pi[p] := by rw [ports]
  refine ⟨tidy.mono fun p quiet => ?_, fun p => ?_⟩
  · rw [Quiet, frame] at quiet
    exact quiet
  · rw [frame, low]
    exact h.ports p

/-- One Port Interface moves, and the ledger as far as the ports that are quiet then ask. -/
theorem Laws.of_modPort {s : State} (h : Laws s) {t : State} (same : portsOf t = portsOf s) {p : Port}
    {f : PortInterface → PortInterface} (tidy : Tidy (Quiet (t.modPort p f)) t)
    (sound : PortSound s.resetLow (f s.pi[p])) : Laws (t.modPort p f) := by
  obtain ⟨low, ports⟩ := Prod.mk.inj same
  refine ⟨tidy, fun q => ?_⟩
  show PortSound t.resetLow (vmod t.pi p f)[q]
  rw [low, ports, vmod_at]
  split
  · next e => exact e ▸ sound
  · exact h.ports q

/-- A Port Interface that does not leave the response of its frame keeps every mark. -/
theorem Laws.modPort {s : State} (h : Laws s) {p : Port} {f : PortInterface → PortInterface}
    (noNewQuiet : (f s.pi[p]).framing ≠ .responding → (f s.pi[p]).framing ≠ .trailing →
      s.pi[p].framing ≠ .responding ∧ s.pi[p].framing ≠ .trailing)
    (sound : PortSound s.resetLow (f s.pi[p])) : Laws (s.modPort p f) := by
  refine h.of_modPort rfl (h.tidy.mono fun q quiet => ?_) sound
  have quiet' : (vmod s.pi p f)[q].framing ≠ .responding ∧ (vmod s.pi p f)[q].framing ≠ .trailing := quiet
  rw [vmod_at] at quiet'
  split at quiet'
  · next e => exact e ▸ noNewQuiet (e ▸ quiet'.1) (e ▸ quiet'.2)
  · exact quiet'

/-! ### What the requests leave of the ports -/

theorem portsOf_giveUpClaim (p : Port) (s : State) : portsOf (giveUpClaim p s) = portsOf s := by
  have noted : portsOf (noteDiscarded p s) = portsOf s := by
    unfold noteDiscarded
    split
    · rfl
    · split <;> rfl
  refine Eq.trans ?_ noted
  unfold giveUpClaim passClaim
  split <;> rfl

theorem portsOf_freeOne (i : EntryNo) (s : State) : portsOf (freeOne i s) = portsOf s := by
  refine Eq.trans (b := portsOf (if _ then withdrawEntry i s else s)) rfl ?_
  split
  · exact portsOf_of_frame (withdrawEntry_frame i s)
  · rfl

theorem portsOf_modOwned (p : Port) (f : Nat → Nat) (s : State) : portsOf (modOwned p f s) = portsOf s := rfl

theorem portsOf_detachEntries (p : Port) (s : State) : portsOf (detachEntries p s) = portsOf s := by
  have freed (l : List EntryNo) (t : State) : portsOf (l.foldl (freeIfOwned p) t) = portsOf t := by
    induction l generalizing t with
    | nil => rfl
    | cons i rest ih =>
        refine (ih _).trans ?_
        unfold freeIfOwned
        split
        · exact portsOf_freeOne i t
        · rfl
  rw [detachEntries_eq, portsOf_modOwned]
  exact freed _ s

theorem portsOf_detachClaim (p : Port) (s : State) : portsOf (detachClaim p s) = portsOf s := by
  refine Eq.trans (b := portsOf (if s.cc.holder = some p then giveUpClaim p s else s)) rfl ?_
  split
  · exact portsOf_giveUpClaim p s
  · rfl

/-- The parts of DETACH before the count of frame errors (R193). -/
def detached (p : Port) (s : State) : State :=
  (detachMarks p (detachClaim p (releaseTracksOf p (detachEntries p s)))).modEvents p fun _ => EventPort.default

theorem actDetach_eq (p : Port) (s : State) :
    (actDetach p s).1 = (detached p s).modPort p fun q => { q with frameErrors := 0 } := rfl

theorem portsOf_detached (p : Port) (s : State) : portsOf (detached p s) = portsOf s := by
  have marks (t : State) : portsOf ((detachMarks p t).modEvents p fun _ => EventPort.default) = portsOf t := rfl
  have tracks (t : State) : portsOf (releaseTracksOf p t) = portsOf t := rfl
  rw [detached, marks, portsOf_detachClaim, tracks, portsOf_detachEntries]

/-- Every request but DETACH leaves the ports. -/
theorem portsOf_requestAct {i : Instr} {act : State → State × Reply} (e : requestAct i = some act)
    (other : ∀ p, i ≠ .detach p) (s : State) : portsOf (act s).1 = portsOf s := by
  have same : portsOf s = portsOf s := rfl
  cases i <;> simp only [requestAct, Option.some.injEq, reduceCtorEq] at e <;> subst e
  case detach p => exact absurd rfl (other p)
  case freerunOn =>
    exact holderOnly_elim (Q := (portsOf · = portsOf s)) same
      (portsOf_of_reference (closed_reference.startFreeRun s))
  case freerunOff =>
    refine holderOnly_elim (Q := (portsOf · = portsOf s)) same ?_
    split
    · exact portsOf_of_reference (closed_reference.enterSearch s)
    · rfl
  case restartReference =>
    exact holderOnly_elim (Q := (portsOf · = portsOf s)) same
      (portsOf_of_reference (closed_reference.restart s))
  case commit =>
    refine holderOnly_elim (Q := (portsOf · = portsOf s)) same ?_
    split
    · rfl
    · rfl
    · split
      · rfl
      · exact portsOf_of_reference (applyRecord_reference _ s)
  case holdEntry =>
    refine onOwnEntry_elim (Q := (portsOf · = portsOf s)) same fun i => ?_
    split
    · exact (portsOf_of_frame (withdrawEntry_frame i s) : portsOf (withdrawEntry i s) = portsOf s)
    · rfl
  case freeEntry => exact onOwnEntry_elim (Q := (portsOf · = portsOf s)) same fun i => portsOf_freeOne i s
  case modifyFlags =>
    refine onOwnEntry_elim (Q := (portsOf · = portsOf s)) same fun i => ?_
    split
    · rfl
    · exact (portsOf_of_frame (pauseNow_frame i _ _)).trans (b := portsOf (s.modEntry i _)) rfl
  case releaseClaim p =>
    unfold actReleaseClaim
    split
    · exact portsOf_giveUpClaim p s
    · rfl
  case writeEntry | armEntry =>
    refine onOwnEntry_elim (Q := (portsOf · = portsOf s)) same fun i => ?_
    split
    · split <;> rfl
    · rfl
  case assignTrack | readTrack =>
    refine onTrackNo_elim (Q := (portsOf · = portsOf s)) same fun k => ?_
    repeat' split
    all_goals rfl
  case releaseTrack | setTrack | driveTrack =>
    refine onOwnTrack_elim (Q := (portsOf · = portsOf s)) same fun k => ?_
    split <;> rfl
  case setQuota | stageParam | clearCounters | discard =>
    refine holderOnly_elim (Q := (portsOf · = portsOf s)) same ?_
    repeat' split
    all_goals rfl
  case allocEntry | readEntry | popEvent | readSlot | withdraw | readLatest | writeSlot | setAttnMask | requestClaim
      | readParam =>
    simp only [actAllocEntry, actReadEntry, actPopEvent, actReadSlot, actWithdraw, actReadLatest, actWriteSlot,
      actSetAttnMask, actRequestClaim, actReadParam]
    repeat' split
    all_goals rfl
  all_goals rfl

/-- A request leaves RESET_n and the ports, but for one count of frame errors that may go back to 0 (R193). -/
theorem requestAct_ports {i : Instr} {act : State → State × Reply} (e : requestAct i = some act) (s : State) :
    (act s).1.resetLow = s.resetLow
      ∧ ∀ q : Port, (act s).1.pi[q] = s.pi[q] ∨ (act s).1.pi[q] = { s.pi[q] with frameErrors := 0 } := by
  by_cases detaches : ∃ p, i = .detach p
  · obtain ⟨p, rfl⟩ := detaches
    obtain rfl : actDetach p = act := Option.some.inj e
    obtain ⟨low, ports⟩ := Prod.mk.inj (portsOf_detached p s)
    rw [actDetach_eq, State.modPort_resetLow, State.modPort_pi, ports]
    refine ⟨low, fun q => ?_⟩
    rw [vmod_at]
    split
    · exact .inr rfl
    · exact .inl rfl
  · obtain ⟨low, ports⟩ := Prod.mk.inj (portsOf_requestAct e (not_exists.1 detaches) s)
    exact ⟨low, fun q => .inl (by rw [ports])⟩

/-! ### A request is taken (R186, R187) -/

/-- The request that a frame's bytes spell is carried by the frame's port (R197). -/
theorem encodeRequest_of_decodeRequest {p : Port} {bytes : List Byte} {i : Instr} (e : decodeRequest p bytes = some i) :
    ∃ sent, encodeRequest i = some (p, sent) := by
  have plain (code : Byte) (e : decodePlain p code = some i) : ∃ sent, encodeRequest i = some (p, sent) := by
    unfold decodePlain at e
    split at e
    case h_19 =>
      split at e
      · next unlisted =>
          obtain rfl := Option.some.inj e
          exact ⟨_, if_pos unlisted⟩
      · cases e
    all_goals
      obtain rfl := Option.some.inj e
      exact ⟨_, rfl⟩
  have one (code a : Byte) (e : decodeOne p code a = some i) : ∃ sent, encodeRequest i = some (p, sent) := by
    unfold decodeOne at e
    split at e <;> cases e <;> exact ⟨_, rfl⟩
  unfold decodeRequest at e
  split at e
  · exact plain _ e
  · exact one _ _ e
  · split at e <;> cases e <;> exact ⟨_, rfl⟩
  · split at e <;> cases e <;> exact ⟨_, rfl⟩
  · split at e <;> cases e <;> exact ⟨_, rfl⟩
  · split at e <;> cases e
    exact ⟨_, rfl⟩
  · split at e <;> cases e
    exact ⟨_, rfl⟩
  · cases e

/-- A request command is taken on the port that carries it, or nothing changes (log entry 5). -/
theorem exec_request {i : Instr} {act : State → State × Reply} (e : requestAct i = some act) (s : State) :
    exec i s = .next s ∨ ∃ p bytes, encodeRequest i = some (p, bytes) ∧ s.resetLow = false
      ∧ exec i s = .next (answerRequest p (bitsOfBytes bytes) act s) := by
  have taken (p : Port) (bytes : List Byte) (sent : encodeRequest i = some (p, bytes))
      (runs : exec i s = .next (takeRequest p i act s)) : exec i s = .next s ∨
        ∃ p bytes, encodeRequest i = some (p, bytes) ∧ s.resetLow = false
          ∧ exec i s = .next (answerRequest p (bitsOfBytes bytes) act s) := by
    simp only [takeRequest, sent] at runs
    split at runs
    · next can =>
        refine .inr ⟨p, bytes, sent, ?_, runs⟩
        simp only [canTake, Bool.and_eq_true, Bool.not_eq_true'] at can
        obtain ⟨⟨⟨high, -⟩, -⟩, -⟩ := can
        exact high
    · exact .inl runs
  cases i <;> simp only [requestAct, Option.some.injEq, reduceCtorEq] at e <;> subst e
  case unknownCode p code =>
    by_cases unlisted : operandCount code = none
    · exact taken p [code] (if_pos unlisted) rfl
    · refine .inl (congrArg Host.Outcome.next ?_)
      simp only [takeRequest, encodeRequest, if_neg unlisted]
  all_goals exact taken _ _ rfl rfl

theorem wire_length_pos (r : Reply) : 0 < 8 * r.wire.length := by
  simp [Reply.wire]

/-- The taking of a request: the port that carries it goes to RESPONDING, where it may have marks. -/
theorem answerRequest_laws {s : State} (h : Laws s) (high : s.resetLow = false) {i : Instr} {act : State → State × Reply}
    {p : Port} {bytes : List Byte} (e : requestAct i = some act) (carried : encodeRequest i = some (p, bytes))
    (bits : List Bool) : Laws (answerRequest p bits act s) := by
  obtain ⟨low, ports⟩ := requestAct_ports e s
  have answered (q : Port) : (answerRequest p bits act s).pi[q] = if p = q then
      { (act s).1.pi[q] with framing := .responding, bits := bits, response := (act s).2.wire, shifted := 0, sck := true,
                             sdo := some true } else (act s).1.pi[q] := by
    simp only [answerRequest, State.modPort_pi, vmod_at]
  have busy : ¬Quiet (answerRequest p bits act s) p := by
    rw [Quiet, answered, if_pos rfl]
    exact fun quiet => quiet.1 rfl
  have noNewQuiet (q : Port) (quiet : Quiet (answerRequest p bits act s) q) : Quiet s q := by
    have other : p ≠ q := fun same => busy (same ▸ quiet)
    rw [Quiet, answered, if_neg other] at quiet
    obtain same | erased := ports q
    · rwa [same] at quiet
    · rwa [erased] at quiet
  refine ⟨requestAct_tidy e carried busy (h.tidy.mono noNewQuiet), fun q => ?_⟩
  show PortSound (act s).1.resetLow (answerRequest p bits act s).pi[q]
  obtain ⟨sdo, shifting, errors⟩ := h.ports q
  have kept : PortSound (act s).1.resetLow (act s).1.pi[q] := by
    rw [low]
    obtain same | erased := ports q
    · rw [same]
      exact h.ports q
    · rw [erased]
      exact ⟨sdo, shifting, Nat.zero_le _⟩
  rw [answered]
  split
  · refine ⟨?_, fun _ => wire_length_pos _, kept.2.2⟩
    simp [low, high]
  · exact kept

/-! ### The lines of a port (R185, R186, R188, R190) -/

theorem fall_laws {s : State} (h : Laws s) (high : s.resetLow = false) (p : Port) :
    Laws (s.modPort p PortInterface.fall) := by
  have sound := h.ports p
  by_cases idle : s.pi[p].framing = .idle
  · refine h.modPort (fun _ _ => by simp [-Fin.getElem_fin, idle]) ?_
    simp [-Fin.getElem_fin, PortSound, PortInterface.fall, idle, high, sound.2.2]
  · have same : PortInterface.fall s.pi[p] = s.pi[p] := if_neg idle
    exact h.modPort (fun a b => by rw [same] at a b; exact ⟨a, b⟩) (by rwa [same])

theorem fallingEdge_laws {s : State} (h : Laws s) (high : s.resetLow = false) (p : Port) :
    Laws (s.modPort p PortInterface.fallingEdge) := by
  obtain ⟨sdo, shifting, errors⟩ := h.ports p
  refine h.modPort ?_ ?_
  · cases framing : s.pi[p].framing <;> simp [-Fin.getElem_fin, PortInterface.fallingEdge, framing]
  · rw [high] at sdo ⊢
    cases framing : s.pi[p].framing <;> rw [framing] at sdo shifting <;>
      simp [-Fin.getElem_fin, PortSound, PortInterface.fallingEdge, framing, errors]
    case idle => exact sdo.2 (.inl rfl)
    case responding => exact shifting rfl

/-- The level of the clock alone. -/
theorem sck_laws {s : State} (h : Laws s) (p : Port) (level : Bool) :
    Laws (s.modPort p fun q => { q with sck := level }) :=
  h.modPort (fun a b => ⟨a, b⟩) (h.ports p)

/-- R186: after the last bit of the response the port is TRAILING. -/
theorem shiftBit_laws {s : State} (h : Laws s) {p : Port} (responding : s.pi[p].framing = .responding) :
    Laws (s.modPort p PortInterface.shiftBit) := by
  obtain ⟨sdo, shifting, errors⟩ := h.ports p
  have more := shifting responding
  by_cases last : s.pi[p].shifted + 1 = 8 * s.pi[p].response.length
  · refine h.modPort (fun _ b => absurd ?_ b) ⟨?_, ?_, errors⟩
    · simp only [PortInterface.shiftBit, if_pos last]
    · simpa [-Fin.getElem_fin, PortInterface.shiftBit, last, responding] using sdo
    · simp only [PortInterface.shiftBit, if_pos last]
      exact fun e => nomatch e
  · refine h.modPort (fun a _ => absurd ?_ a) ⟨?_, ?_, errors⟩
    · simp only [PortInterface.shiftBit, if_neg last]
    · simpa [-Fin.getElem_fin, PortInterface.shiftBit, last, responding] using sdo
    · intro _
      show s.pi[p].shifted + 1 < 8 * s.pi[p].response.length
      omega

theorem risingEdge_laws {s : State} (h : Laws s) (high : s.resetLow = false) (p : Port) (sdi : Bool) :
    Laws (risingEdge p sdi s) := by
  unfold risingEdge
  split
  · exact sck_laws h p true
  · exact sck_laws h p true
  · exact sck_laws h p true
  · next responding => exact shiftBit_laws h responding
  · split
    · exact h.modPort (fun a b => ⟨a, b⟩) (h.ports p)
    · next act completed =>
        obtain ⟨i, spelt, acts⟩ := Option.bind_eq_some_iff.1 completed
        unfold completedRequest at spelt
        split at spelt
        · obtain ⟨bytes, carried⟩ := encodeRequest_of_decodeRequest spelt
          exact answerRequest_laws h high acts carried _
        · cases spelt

theorem clockEdge_laws {s : State} (h : Laws s) (high : s.resetLow = false) (p : Port) (rising sdi : Bool) :
    Laws (clockEdge p rising sdi s) := by
  unfold clockEdge
  split
  · exact h
  · split
    · exact sck_laws h p rising
    · split
      · exact risingEdge_laws h high p sdi
      · exact fallingEdge_laws h high p

/-! ### The rise of the select line (R186, R190) -/

/-- Where p's place changes to one that has the property, and the other quiet ports have it, they all have. -/
theorem vmod_of_dropped {α : Type} {P : α → Prop} {quiet : Port → Prop} {p : Port} {f : α → α} {v : Vector α 4}
    (dropped : ∀ a, P (f a)) (others : ∀ q, quiet q → q ≠ p → P v[q]) (q : Port) (h : quiet q ∨ q = p) :
    P (vmod v p f)[q] := by
  rw [vmod_at]
  split
  · exact dropped _
  · next other =>
      have ne : q ≠ p := fun e => other e.symm
      exact others q (h.resolve_right ne) ne

theorem deliverySound_unmark {quiet : Prop} {q : EventPort}
    (within : q.queue.length ≤ 16 ∧ q.lost ≤ 255 ∧ 1 ≤ q.watermark ∧ q.watermark ≤ 16) :
    DeliverySound quiet q.unmark :=
  ⟨within, fun marked => absurd marked Bool.false_ne_true, fun _ => ⟨rfl, rfl, fun n => by simp [EventPort.unmark]⟩⟩

/-- A port's part of delivery after its marks are removed, where p was quiet or is it. -/
theorem delivery_of_unmarked {quiet : Port → Prop} {p : Port} {v : Vector EventPort 4}
    (within : v[p].queue.length ≤ 16 ∧ v[p].lost ≤ 255 ∧ 1 ≤ v[p].watermark ∧ v[p].watermark ≤ 16)
    (others : ∀ q, q ≠ p → DeliverySound (quiet q) v[q]) (q : Port) :
    DeliverySound (quiet q ∨ q = p) (vmod v p EventPort.unmark)[q] := by
  rw [vmod_at]
  split
  · next e => exact deliverySound_unmark (e ▸ within)
  · next other =>
      have ne : q ≠ p := fun e => other e.symm
      obtain ⟨within, popped, marks⟩ := others q ne
      exact ⟨within, popped, fun h => marks (h.resolve_right ne)⟩

/-- R190: with its marks removed, p is as a quiet port. -/
theorem removeMarks_tidy {quiet : Port → Prop} {s : State} (h : Tidy quiet s) (p : Port) :
    Tidy (fun q => quiet q ∨ q = p) (removeMarks p s) :=
  { h with
    latches := fun q hq n => vmod_of_dropped (P := fun l : Vector Marked 4 => l[n].mark = false) (fun l => by simp)
      (fun q hq _ => h.latches q hq n) q hq
    stepSeen := vmod_of_dropped (P := fun m : Marked => m.mark = false) (fun _ => rfl) fun q hq _ => h.stepSeen q hq
    lockMarks := vmod_of_dropped (P := fun m => m = false) (fun _ => rfl) fun q hq _ => h.lockMarks q hq
    claimMarks := vmod_of_dropped (P := fun m => m = false) (fun _ => rfl) fun q hq _ => h.claimMarks q hq
    delivery := delivery_of_unmarked (h.delivery p).1 fun q _ => h.delivery q }

theorem complete_within {q : EventPort} {lockCause claimCause : Bool}
    (within : q.queue.length ≤ 16 ∧ q.lost ≤ 255 ∧ 1 ≤ q.watermark ∧ q.watermark ≤ 16) :
    let r := { q.complete with lockCause := lockCause, claimCause := claimCause }
    r.queue.length ≤ 16 ∧ r.lost ≤ 255 ∧ 1 ≤ r.watermark ∧ r.watermark ≤ 16 := by
  obtain ⟨queue, lost, watermark⟩ := within
  refine ⟨?_, ?_, watermark⟩
  · show (if q.popMark then q.queue.tail else q.queue).length ≤ 16
    split
    · exact (List.length_tail).trans_le ((Nat.sub_le _ _).trans queue)
    · exact queue
  · show (if q.lostMark then 0 else q.lost) ≤ 255
    split
    · exact Nat.zero_le _
    · exact lost

/-- R190: the effects of the read and then the marks; a record leaves the queue only with its mark. -/
theorem removeMarks_completeRead_tidy {quiet : Port → Prop} {s : State} (h : Tidy quiet s) (p : Port) :
    Tidy (fun q => quiet q ∨ q = p) (removeMarks p (completeRead p s)) := by
  have read {α : Type} (v : Vector α 4) (f : α → α) {q : Port} (ne : q ≠ p) : (vmod v p f)[q] = v[q] :=
    vmod_ne v p q f ne.symm
  refine { h with latches := fun q hq n => ?_, stepSeen := ?_, lockMarks := ?_, claimMarks := ?_, delivery := ?_ }
  · exact vmod_of_dropped (P := fun l : Vector Marked 4 => l[n].mark = false)
      (f := fun l => vall l fun m => { m with mark := false }) (fun l => by simp)
      (fun q hq ne => (congrArg (fun l : Vector Marked 4 => l[n].mark) (read _ _ ne)).trans (h.latches q hq n)) q hq
  · exact vmod_of_dropped (P := fun m : Marked => m.mark = false) (fun _ => rfl)
      fun q hq ne => (congrArg Marked.mark (read _ _ ne)).trans (h.stepSeen q hq)
  · exact vmod_of_dropped (P := fun m => m = false) (fun _ => rfl) fun q hq _ => h.lockMarks q hq
  · exact vmod_of_dropped (P := fun m => m = false) (fun _ => rfl) fun q hq _ => h.claimMarks q hq
  · refine delivery_of_unmarked ?_ fun q ne => ?_
    · rw [show (completeRead p s).er[p] = _ from vmod_self _ _ _]
      exact complete_within (h.delivery p).1
    · rw [show (completeRead p s).er[q] = s.er[q] from read _ _ ne]
      exact h.delivery q

theorem rise_sound {q : PortInterface} (h : PortSound false q) : PortSound false q.rise := by
  obtain ⟨sdo, shifting, errors⟩ := h
  cases framing : q.framing <;> simp [PortSound, PortInterface.rise, framing, errors]
  case receiving => exact satInc_le _ _
  case idle => exact sdo.2 (.inl framing)

theorem selectRises_laws {s : State} (h : Laws s) (high : s.resetLow = false) (p : Port) : Laws (selectRises p s) := by
  have sound : PortSound s.resetLow s.pi[p].rise := by
    rw [high]
    exact rise_sound (high ▸ h.ports p)
  have quietBefore (q : Port) (quiet : Quiet (selectRises p s) q) : Quiet s q ∨ q = p := by
    by_cases same : p = q
    · exact .inr same.symm
    · have frame : (selectRises p s).pi[q] = s.pi[q] := by
        unfold selectRises
        split <;> exact vmod_ne _ _ _ _ same
      rw [Quiet, frame] at quiet
      exact .inl quiet
  unfold selectRises at quietBefore ⊢
  split at quietBefore
  · next trailing =>
      rw [if_pos trailing]
      exact h.of_modPort (t := removeMarks p (completeRead p s)) rfl
        ((removeMarks_completeRead_tidy h.tidy p).mono quietBefore) sound
  · next other =>
      rw [if_neg other]
      exact h.of_modPort (t := removeMarks p s) rfl ((removeMarks_tidy h.tidy p).mono quietBefore) sound

/-! ### Device reset (R195; log entry 9) -/

theorem tidy_reset (quiet : Port → Prop) : Tidy quiet State.reset :=
  ((tidy_iff State.reset).2 ⟨claimSound_reset, marksSound_reset, withinCapacity_reset⟩).mono fun p _ => by
    simp [Quiet, State.reset, PortInterface.reset]

theorem holdInReset_laws (s : State) : Laws (holdInReset s) := by
  refine ⟨(tidy_reset _).congr rfl, fun p => ?_⟩
  rw [holdInReset_pi, vall_at]
  cases s.pi[p].selected <;> simp [PortInterface.reset]

theorem endReset_laws (s : State) : Laws (endReset s) := by
  refine ⟨(tidy_reset _).congr rfl, fun p => ?_⟩
  rw [endReset_eq]
  simp only [vall_at]
  cases s.pi[p].selected <;> simp [PortInterface.reset]

/-- A port that the reset holds as it is. -/
def HeldPort (q : PortInterface) : Prop := { PortInterface.reset q.selected q.sck with sdo := none } = q

theorem HeldPort.discarding {q : PortInterface} (h : HeldPort q) (busy : q.framing ≠ .idle) : q.framing = .discarding := by
  have framing : (if q.selected then Framing.discarding else .idle) = q.framing := congrArg PortInterface.framing h
  split at framing
  · exact framing.symm
  · exact absurd framing.symm busy

theorem heldPort_of_held {s : State} (held : holdInReset s = s) (p : Port) : HeldPort s.pi[p] := by
  have port : (holdInReset s).pi[p] = s.pi[p] := by rw [held]
  rwa [holdInReset_pi, vall_at] at port

/-- RESET_n low, and a Port Interface that moves from one held state to another. -/
theorem held_modPort {s : State} (held : holdInReset s = s) {p : Port} {f : PortInterface → PortInterface}
    (port : HeldPort (f s.pi[p])) : holdInReset (s.modPort p f) = s.modPort p f := by
  have ports : (vall (vmod s.pi p f) fun q => { PortInterface.reset q.selected q.sck with sdo := none }) = vmod s.pi p f := by
    refine vector_ext_at fun q => ?_
    rw [vall_at, vmod_at]
    split
    · next e => exact e ▸ port
    · exact heldPort_of_held held q
  calc holdInReset (s.modPort p f)
      = { holdInReset s with
          pi := vall (vmod s.pi p f) fun q => { PortInterface.reset q.selected q.sck with sdo := none } } := rfl
    _ = s.modPort p f := by rw [held, ports]; rfl

theorem vmod_replicate_of_fixed {α : Type} {n : Nat} (i : Fin n) {f : α → α} {a : α} (fixed : f a = a) :
    vmod (Vector.replicate n a) i f = Vector.replicate n a :=
  vmod_id _ _ _ (by simpa using fixed)

theorem removeMarks_holdInReset (p : Port) (s : State) : removeMarks p (holdInReset s) = holdInReset s := by
  have latches : vmod (Vector.replicate 4 (Vector.replicate 4 (⟨false, false⟩ : Marked))) p
      (fun l => vall l fun m => { m with mark := false }) = Vector.replicate 4 (Vector.replicate 4 ⟨false, false⟩) :=
    vmod_replicate_of_fixed p (vector_ext_at fun n => by simp)
  have delivery : vmod (Vector.replicate 4 EventPort.default) p EventPort.unmark = Vector.replicate 4 EventPort.default :=
    vmod_replicate_of_fixed p (by decide)
  have bit : vmod (Vector.replicate 4 false) p (fun _ => false) = Vector.replicate 4 false := vmod_replicate_of_fixed p rfl
  have seen : vmod (Vector.replicate 4 (⟨false, false⟩ : Marked)) p (fun m => { m with mark := false })
      = Vector.replicate 4 ⟨false, false⟩ := vmod_replicate_of_fixed p rfl
  simp only [removeMarks, holdInReset, EdgeQualifier.reset, PeriodTracker.reset, LockSupervisor.reset,
    ClaimController.reset, State.reset, latches, delivery, bit, seen]

/-- While RESET_n is low no timed event is due, no request is taken, and what moves is held. -/
theorem exec_held {i : Instr} {s t : State} (low : s.resetLow = true) (held : holdInReset s = s) (e : exec i s = .next t) :
    t.resetLow = true ∧ holdInReset t = t := by
  have stays : s.resetLow = true ∧ holdInReset s = s := ⟨low, held⟩
  have nothingDue : dueEvents s = [] := held ▸ dueEvents_holdInReset s
  have notDue (c : Instr) : c ∉ dueEvents s := nothingDue ▸ List.not_mem_nil
  cases acts : requestAct i with
  | some act =>
      obtain same | ⟨_, _, _, high, _⟩ := exec_request acts s
      · exact Host.Outcome.next.inj (same.symm.trans e) ▸ stays
      · exact absurd (high.symm.trans low) Bool.false_ne_true
  | none =>
      cases i <;> simp only [requestAct, reduceCtorEq] at acts <;> obtain rfl := Host.Outcome.next.inj e
      case deviceReset => exact ⟨rfl, holdInReset_holdInReset s⟩
      case rawLevelChange =>
        rw [if_pos low]
        exact ⟨rfl, holdInReset_holdInReset _⟩
      case runExpiry line =>
        rwa [if_neg fun due => notDue (.runExpiry line) (mem_dueEvents.2 (by simp [due]))]
      case gapCountExpiry => rwa [if_neg fun due => notDue .gapCountExpiry (mem_dueEvents.2 (by simp [due]))]
      case standstillExpiry => rwa [if_neg fun due => notDue .standstillExpiry (mem_dueEvents.2 (by simp [due]))]
      case missDeadlineExpiry => rwa [if_neg fun due => notDue .missDeadlineExpiry (mem_dueEvents.2 (by simp [due]))]
      case freeStep => rwa [if_neg fun due => notDue .freeStep (mem_dueEvents.2 (by simp [due]))]
      case ticketDue => rwa [if_neg fun due => notDue .ticketDue (mem_dueEvents.2 (by simp [due]))]
      case pulseEnd k =>
        rwa [if_neg fun due => notDue (.pulseEnd k) (mem_dueEvents.2 (by simp [-Fin.getElem_fin, due]))]
      case selectFall p =>
        rw [if_pos low]
        refine ⟨low, held_modPort held ?_⟩
        rw [HeldPort, ← heldPort_of_held held p]
        rfl
      case selectRise p =>
        split
        · exact stays
        · next busy =>
            have discarding : s.pi[p].framing = .discarding := (heldPort_of_held held p).discarding busy
            have unmarked : removeMarks p s = s := by
              rw [← held, removeMarks_holdInReset]
            have rises : selectRises p s = s.modPort p PortInterface.rise := by
              rw [selectRises, if_neg (by rw [discarding]; exact fun e => nomatch e), unmarked]
            rw [rises]
            refine ⟨low, held_modPort held ?_⟩
            rw [HeldPort, ← heldPort_of_held held p]
            cases selected : s.pi[p].selected <;> rfl
      case serialClockEdge p rising sdi =>
        unfold clockEdge
        split_ifs
        · exact stays
        · refine ⟨low, held_modPort held ?_⟩
          rw [HeldPort, ← heldPort_of_held held p]
          cases selected : s.pi[p].selected <;> rfl

/-! ### Every step -/

/-- Only the fall of RESET_n makes the line low. -/
theorem resetLow_of_exec {i : Instr} (other : i ≠ .deviceReset) {s t : State} (high : s.resetLow = false)
    (e : exec i s = .next t) : t.resetLow = false := by
  refine Eq.trans ?_ high
  cases acts : requestAct i with
  | some act =>
      have acted (p : Port) (bits : List Bool) : (answerRequest p bits act s).resetLow = s.resetLow :=
        (requestAct_ports acts s).1
      obtain same | ⟨_, _, _, _, answered⟩ := exec_request acts s
      · exact Host.Outcome.next.inj (same.symm.trans e) ▸ rfl
      · exact Host.Outcome.next.inj (answered.symm.trans e) ▸ acted _ _
  | none =>
      cases i <;> simp only [requestAct, reduceCtorEq] at acts <;> obtain rfl := Host.Outcome.next.inj e
      case deviceReset => exact absurd rfl other
      case rawLevelChange line level =>
        rw [if_neg (high ▸ Bool.false_ne_true)]
        exact (closed_reference.rawChange line level s).resetLow
      case selectFall => rfl
      case serialClockEdge p rising sdi =>
        have rises : (risingEdge p sdi s).resetLow = s.resetLow := by
          unfold risingEdge
          split
          · rfl
          · rfl
          · rfl
          · rfl
          · split
            · rfl
            · next act completed =>
                obtain ⟨i, -, acts⟩ := Option.bind_eq_some_iff.1 completed
                exact (requestAct_ports acts s).1
        unfold clockEdge
        split_ifs
        · rfl
        · rfl
        · exact rises
        · rfl
      all_goals split
      case runExpiry.isTrue line _ => exact (closed_reference.filteredTransition line s).resetLow
      case standstillExpiry.isTrue => exact (closed_reference.standstillExpires s).resetLow
      case missDeadlineExpiry.isTrue => exact (closed_reference.synthStep s).resetLow
      case freeStep.isTrue => exact (closed_reference.freeRunStep s).resetLow
      case ticketDue.isTrue =>
        unfold fireFirstTicket
        split
        · rfl
        · exact ((firingFrame_of_fs s _).trans (fire_frame _ _ _ _)).resetLow
      case selectRise.isFalse =>
        unfold selectRises
        split <;> rfl
      all_goals rfl

/-- With RESET_n high an event of the inputs, of the clock or of a port's lines keeps the laws. -/
theorem exec_event_laws {i : Instr} (e : requestAct i = none) {s : State} (h : Laws s) (high : s.resetLow = false) :
    ∃ t, exec i s = .next t ∧ Laws t := by
  have of_reference {t : State} (tidy : Tidy (Quiet s) t) (frame : ReferenceFrame s t) : Laws t :=
    h.of_portsOf tidy (portsOf_of_reference frame)
  cases i <;> simp only [requestAct, reduceCtorEq] at e <;> refine ⟨_, rfl, ?_⟩
  case deviceReset => exact holdInReset_laws s
  case rawLevelChange line level =>
    rw [if_neg (high ▸ Bool.false_ne_true)]
    exact of_reference (rawChange_tidy line level s h.tidy) (closed_reference.rawChange line level s)
  case selectFall p =>
    rw [if_neg (high ▸ Bool.false_ne_true)]
    exact fall_laws h high p
  case serialClockEdge p rising sdi => exact clockEdge_laws h high p rising sdi
  all_goals split
  case runExpiry.isTrue line _ =>
    exact of_reference (filteredTransition_tidy applyPending_tidy line s h.tidy)
      (closed_reference.filteredTransition line s)
  case standstillExpiry.isTrue =>
    exact of_reference (standstillExpires_tidy applyPending_tidy s h.tidy) (closed_reference.standstillExpires s)
  case missDeadlineExpiry.isTrue =>
    exact of_reference (synthStep_tidy applyPending_tidy s h.tidy) (closed_reference.synthStep s)
  case freeStep.isTrue =>
    exact of_reference (freeRunStep_tidy applyPending_tidy s h.tidy) (closed_reference.freeRunStep s)
  case ticketDue.isTrue =>
    unfold fireFirstTicket
    split
    · exact h
    · next listed =>
        exact of_reference (fire_tidy _ _ _ _ (h.tidy.tail listed))
          ((firingFrame_of_fs s _).trans (fire_frame _ _ _ _)).reference
  case gapCountExpiry.isTrue => exact h.of_portsOf (h.tidy.congr rfl) rfl
  case pulseEnd.isTrue => exact h.of_portsOf (h.tidy.congr rfl) rfl
  case selectRise.isFalse p _ => exact selectRises_laws h high p
  all_goals exact h

/-- R195: while RESET_n is low every command leaves the hub held in reset. -/
theorem exec_heldInReset {i : Instr} {s t : State} (held : HeldInReset s) (e : exec i s = .next t) : HeldInReset t := by
  refine (heldInReset_iff t).2 fun lowAfter => ?_
  cases level : s.resetLow with
  | true => exact (exec_held level ((heldInReset_iff s).1 held level) e).2
  | false =>
      by_cases reset : i = .deviceReset
      · subst reset
        obtain rfl : holdInReset s = t := Host.Outcome.next.inj e
        exact holdInReset_holdInReset s
      · exact absurd (lowAfter.symm.trans (resetLow_of_exec reset level e)) Bool.false_ne_true.symm

theorem exec_laws {i : Instr} {s t : State} (held : HeldInReset s) (h : Laws s) (e : exec i s = .next t) : Laws t := by
  cases level : s.resetLow with
  | true =>
      obtain ⟨-, fixed⟩ := exec_held level ((heldInReset_iff s).1 held level) e
      exact fixed ▸ holdInReset_laws t
  | false =>
      cases acts : requestAct i with
      | some act =>
          obtain same | ⟨p, bytes, carried, high, answered⟩ := exec_request acts s
          · exact Host.Outcome.next.inj (same.symm.trans e) ▸ h
          · exact Host.Outcome.next.inj (answered.symm.trans e) ▸ answerRequest_laws h high acts carried _
      | none =>
          obtain ⟨u, runs, laws⟩ := exec_event_laws acts h level
          exact Host.Outcome.next.inj (runs.symm.trans e) ▸ laws

theorem tick_laws {s : State} (h : Laws s) : Laws (tick s) := by
  unfold tick
  split
  · exact endReset_laws s
  · exact h.of_portsOf (h.tidy.congr rfl) rfl

theorem tick_heldInReset (s : State) : HeldInReset (tick s) := by
  refine fun low => absurd (low.symm.trans ?_) Bool.false_ne_true.symm
  unfold tick
  split
  · rfl
  · next high => exact Bool.of_not_eq_true high

/-- The queue and the counter of free values are no state of a block. -/
theorem heldInReset_congr {s : State} (held : HeldInReset s) (queue : List Instr) (count : Nat) :
    HeldInReset { s with pending := queue, freeCount := count } :=
  fun low => congrArg (fun u : State => { u with pending := queue, freeCount := count }) (held low)

/-- What every command and the passing of time keep, every step keeps. -/
theorem step_preserves {P : State → Prop} (queue : ∀ s, P s → ∀ l n, P { s with pending := l, freeCount := n })
    (command : ∀ i s t, P s → exec i s = .next t → P t) (time : ∀ s, P s → P (tick s)) {s t : State} (h : P s)
    (e : step s = .next t) : P t := by
  unfold step at e
  split at e
  · unfold ownStep at e
    split at e
    · exact Host.Outcome.next.inj e ▸ time s h
    · exact command _ s t h e
    · exact command _ _ t (queue s h s.pending (s.freeCount + 1)) e
  · next rest _ => exact command _ _ t (queue s h rest s.freeCount) e

theorem step_laws {s t : State} (held : HeldInReset s) (h : Laws s) (e : step s = .next t) : Laws t := by
  refine And.right (step_preserves (P := fun s => HeldInReset s ∧ Laws s) ?_ ?_ ?_ ⟨held, h⟩ e)
  · exact fun s ⟨held, h⟩ l n => ⟨heldInReset_congr held l n, h.of_portsOf (h.tidy.congr rfl) rfl⟩
  · exact fun i s t ⟨held, h⟩ e => ⟨exec_heldInReset held e, exec_laws held h e⟩
  · exact fun s ⟨_, h⟩ => ⟨tick_heldInReset s, tick_laws h⟩

/-- Settles O59: the claim, the marks and the capacities as one law of the ledger, the ports' law beside it, and RESET_n low
as the fixed points of device reset. -/
theorem everyStepKeepsClaimPortsAndCapacities : Obligations.EveryStepKeepsClaimPortsAndCapacities :=
  ⟨fun s t held claim ports marks capacity e =>
      (laws_iff t).1 (step_laws held ((laws_iff s).2 ⟨claim, ports, marks, capacity⟩) e),
    fun _ _ held e => step_preserves (fun _ held l n => heldInReset_congr held l n) (fun _ _ _ => exec_heldInReset)
      (fun s _ => tick_heldInReset s) held e⟩

end Sys2Proof.Proofs
end

section
/-! PROOFS. The requests on the claim and on the configuration: READ_PARAM, REQUEST_CLAIM, WITHDRAW and RELEASE_CLAIM,
STAGE_PARAM, DISCARD and SET_QUOTA (R167 to R170, R172, R175 to R177, R182, R201). -/

namespace Sys2Proof.Proofs

open Sys2Proof Sys2Proof.Machine Sys2Proof.Safety

/-! ### READ_PARAM (R176) -/

section ReadParam

variable {id selector : Byte} {s : State}

theorem selected_range {c : ClaimController} (high : 3 ≤ selector.toNat) : selected selector c = none := by
  unfold selected
  split
  · omega
  · omega
  · omega
  · rfl

theorem actReadParam_of_range (bad : paramOf id = none ∨ 3 ≤ selector.toNat) :
    actReadParam id selector s = (s, Reply.bare .range) := by
  rcases bad with unknown | high
  · simp only [actReadParam, unknown]
  · simp only [actReadParam, selected_range high]
    cases paramOf id <;> rfl

variable {q : Param} (known : paramOf id = some q)

include known

/-- The record that the selector names is absent. -/
theorem actReadParam_of_absent (named : selected selector s.cc = some none) :
    actReadParam id selector s = (s, Reply.bare .state) := by
  simp only [actReadParam, known, named]

theorem actReadParam_of_present {c : RefConfig} (named : selected selector s.cc = some (some c)) :
    actReadParam id selector s = (s, ⟨.ok, id :: bytesOf24 (BitVec.ofNat 24 (c.read q))⟩) := by
  simp only [actReadParam, known, named]
  rfl

end ReadParam

/-- Settles O36: RANGE by the id or the selector, then STATE where the record is absent; the staged copy is absent exactly
where there is no holder. -/
theorem readParamReadsTheNamedRecord : Obligations.ReadParamReadsTheNamedRecord := by
  unfold Obligations.ReadParamReadsTheNamedRecord
  rintro p id selector s ⟨-, -, -, stagedIff⟩
  refine ⟨fun bad => ?_, fun q known => ⟨?_, ?_, ?_, ?_, ?_⟩⟩
  · exact answers_of_refusal (act := actReadParam id selector) .range rfl rfl (actReadParam_of_range bad)
  · rintro rfl
    exact answers_of_reply (act := actReadParam id 0) rfl rfl (actReadParam_of_present known rfl)
  · rintro rfl unclaimed
    have absent : s.cc.staged = none := by
      rw [unclaimed] at stagedIff
      simpa using stagedIff
    exact answers_of_refusal (act := actReadParam id 1) .state rfl rfl
      (actReadParam_of_absent known (congrArg some absent))
  · rintro c rfl staged
    exact answers_of_reply (act := actReadParam id 1) rfl rfl (actReadParam_of_present known (congrArg some staged))
  · rintro rfl absent
    exact answers_of_refusal (act := actReadParam id 2) .state rfl rfl
      (actReadParam_of_absent known (congrArg some absent))
  · rintro c rfl waits
    exact answers_of_reply (act := actReadParam id 2) rfl rfl (actReadParam_of_present known (congrArg some waits))

/-! ### REQUEST_CLAIM and WITHDRAW (R168, R169) -/

section Claim

variable {p : Port} {s : State}

theorem actRequestClaim_of_free (free : s.cc.holder = none) :
    actRequestClaim p s = (grantClaim p s, ⟨.ok, [0]⟩) := by
  simp only [actRequestClaim, free]

theorem actRequestClaim_of_own (own : s.cc.holder = some p) : actRequestClaim p s = (s, ⟨.already, [0]⟩) := by
  simp only [actRequestClaim, own, if_true]

variable {h : Port} (held : s.cc.holder = some h) (other : h ≠ p)

include held other in
theorem actRequestClaim_of_new (new : p ∉ s.cc.waiting) :
    actRequestClaim p s =
      ({ s with cc := { s.cc with waiting := s.cc.waiting ++ [p] } }, ⟨.queued, [octet (s.cc.waiting.length + 1)]⟩) := by
  simp only [actRequestClaim, held, if_neg other, if_neg new, byteOf_eq_octet]

/-- A port's position is one more than the number of the ports before its first place. -/
theorem position_of_split {c : ClaimController} {before after : List Port} (waiting : c.waiting = before ++ p :: after)
    (first : p ∉ before) : c.position p = before.length + 1 := by
  have place : c.waiting.findIdx? (· == p) = some before.length := by
    rw [waiting, List.findIdx?_append, List.findIdx?_eq_none_iff.2 fun q inBefore => ?_]
    · simp [List.findIdx?_cons]
    · exact beq_false_of_ne fun same => first (same ▸ inBefore)
  simp only [ClaimController.position, place]

include held other in
theorem actRequestClaim_of_waiting {before after : List Port} (waiting : s.cc.waiting = before ++ p :: after)
    (first : p ∉ before) : actRequestClaim p s = (s, ⟨.queued, [octet (before.length + 1)]⟩) := by
  have waits : p ∈ s.cc.waiting := by simp [waiting]
  simp only [actRequestClaim, held, if_neg other, if_pos waits, position_of_split waiting first, byteOf_eq_octet]

theorem actWithdraw_of_absent (absent : p ∉ s.cc.waiting) : actWithdraw p s = (s, Reply.bare .notWaiting) :=
  if_neg absent

theorem filter_ne_of_not_mem {l : List Port} (absent : p ∉ l) : l.filter (fun q => q ≠ p) = l :=
  List.filter_eq_self.2 fun _ member => decide_eq_true fun same => absent (same ▸ member)

/-- R169: the port leaves the list, and the others keep their order. -/
theorem actWithdraw_of_split {before after : List Port} (waiting : s.cc.waiting = before ++ p :: after)
    (notBefore : p ∉ before) (notAfter : p ∉ after) :
    actWithdraw p s = ({ s with cc := { s.cc with waiting := before ++ after } }, Reply.bare .ok) := by
  have waits : p ∈ s.cc.waiting := by simp [waiting]
  have left : s.cc.waiting.filter (fun q => q ≠ p) = before ++ after := by
    rw [waiting, List.filter_append, List.filter_cons_of_neg (by simp), filter_ne_of_not_mem notBefore,
      filter_ne_of_not_mem notAfter]
  simp only [actWithdraw, if_pos waits, leaveWaiting, left]

end Claim

/-! ### RELEASE_CLAIM (R170, R172) -/

/-- The CLAIM cause set for the ports that are told, whose marks of it go. -/
def toldClaim (told : Port → Bool) (s : State) : State :=
  { s with
    cc := { s.cc with claimMarks := Vector.ofFn fun q => s.cc.claimMarks[q] && !told q }
    er := Vector.ofFn fun q => { s.er[q] with claimCause := s.er[q].claimCause || told q } }

theorem toldClaim_nobody {told : Port → Bool} (nobody : ∀ q, told q = false) (s : State) : toldClaim told s = s := by
  have marks : (Vector.ofFn fun q : Port => s.cc.claimMarks[q] && !told q) = s.cc.claimMarks :=
    vector_ext_at fun q => by rw [ofFn_at, nobody]; simp
  have causes : (Vector.ofFn fun q : Port => { s.er[q] with claimCause := s.er[q].claimCause || told q }) = s.er :=
    vector_ext_at fun q => by rw [ofFn_at, nobody, Bool.or_false]
  rw [toldClaim, marks, causes]

/-- One port more is told. -/
theorem setClaimCause_toldClaim (h : Port) (told : Port → Bool) (s : State) :
    setClaimCause h (toldClaim told s) = toldClaim (fun q => told q || h == q) s := by
  have marks : (vmod (Vector.ofFn fun q : Port => s.cc.claimMarks[q] && !told q) h fun _ => false)
      = Vector.ofFn fun q : Port => s.cc.claimMarks[q] && !(told q || h == q) := by
    refine vector_ext_at fun q => ?_
    rw [vmod_at, ofFn_at, ofFn_at]
    cases told q <;> by_cases same : h = q <;> simp [same]
  have causes : (vmod (Vector.ofFn fun q : Port => { s.er[q] with claimCause := s.er[q].claimCause || told q }) h
        fun e => { e with claimCause := true })
      = Vector.ofFn fun q : Port => { s.er[q] with claimCause := s.er[q].claimCause || (told q || h == q) } := by
    refine vector_ext_at fun q => ?_
    rw [vmod_at, ofFn_at, ofFn_at]
    cases told q <;> by_cases same : h = q <;> simp [same]
  calc setClaimCause h (toldClaim told s)
      = { s with
          cc := { s.cc with claimMarks := vmod (Vector.ofFn fun q : Port => s.cc.claimMarks[q] && !told q) h fun _ => false }
          er := vmod (Vector.ofFn fun q : Port => { s.er[q] with claimCause := s.er[q].claimCause || told q }) h
            fun e => { e with claimCause := true } } := rfl
    _ = toldClaim (fun q => told q || h == q) s := by rw [marks, causes]; rfl

theorem setClaimCause_eq_toldClaim (h : Port) (s : State) : setClaimCause h s = toldClaim (fun q => h == q) s := by
  have alone := setClaimCause_toldClaim h (fun _ => false) s
  rwa [toldClaim_nobody (fun _ => rfl), show (fun q : Port => false || h == q) = fun q => h == q from
    funext fun q => Bool.false_or _] at alone

/-- R170 step 1: the holder is told where edits are thrown away. -/
theorem noteDiscarded_eq_toldClaim {p : Port} {s : State} {c : RefConfig} (staged : s.cc.staged = some c) :
    noteDiscarded p s = toldClaim (fun q => q == p && c != s.cc.active) s := by
  simp only [noteDiscarded, staged]
  by_cases same : c = s.cc.active
  · rw [if_pos same, toldClaim_nobody fun q => by simp [same]]
  · rw [if_neg same, setClaimCause_eq_toldClaim]
    refine congrArg (toldClaim · s) (funext fun q => ?_)
    rw [bne_iff_ne.2 same, Bool.and_true]
    exact Bool.beq_comm

/-- The claim as RELEASE_CLAIM leaves it, but for the marks. -/
def passedOn (s : State) : State :=
  { s with cc := { s.cc with
    holder := s.cc.waiting.head?
    waiting := s.cc.waiting.drop 1
    staged := if s.cc.waiting = [] then none else some s.cc.active } }

/-- R170 steps 2 and 3: the oldest waiter takes the claim, and is told. -/
theorem passClaim_toldClaim (told : Port → Bool) (s : State) :
    passClaim (toldClaim told s) = toldClaim (fun q => told q || s.cc.waiting.head? == some q) (passedOn s) := by
  have waiting : (toldClaim told s).cc.waiting = s.cc.waiting := rfl
  unfold passClaim
  rw [waiting]
  cases listed : s.cc.waiting with
  | nil =>
      have nobody : (fun q => told q || ([] : List Port).head? == some q) = told :=
        funext fun q => by simp
      rw [nobody]
      simp only [toldClaim, passedOn, listed, List.head?_nil, List.drop_nil, if_true]
  | cons q rest =>
      have one : (fun r => told r || (q :: rest).head? == some r) = fun r => told r || q == r :=
        funext fun r => by simp
      rw [one, ← setClaimCause_toldClaim]
      simp only [passedOn, listed]
      rfl

theorem actReleaseClaim_of_other {p : Port} {s : State} (other : s.cc.holder ≠ some p) :
    actReleaseClaim p s = (s, Reply.bare .denied) := if_neg other

theorem actReleaseClaim_of_holder {p : Port} {s : State} {c : RefConfig} (held : s.cc.holder = some p)
    (staged : s.cc.staged = some c) :
    actReleaseClaim p s =
      (toldClaim (fun q => (q == p && c != s.cc.active) || s.cc.waiting.head? == some q) (passedOn s), Reply.bare .ok) := by
  rw [actReleaseClaim, if_pos held, giveUpClaim, noteDiscarded_eq_toldClaim staged, passClaim_toldClaim]

/-- Settles O48: by the holder and the list; the release tells the old holder of thrown-away edits and the new one of its
claim. -/
theorem claimIsRequestedWithdrawnAndReleased : Obligations.ClaimIsRequestedWithdrawnAndReleased := by
  unfold Obligations.ClaimIsRequestedWithdrawnAndReleased
  refine fun p s => ⟨fun free => ?_, fun own => ?_, fun h held other new => ?_,
    fun h before after held other waiting first => ?_, fun absent => ?_, fun before after waiting notBefore notAfter => ?_,
    fun other => ?_, fun c held staged =>
      ⟨_, answers_of_reply (act := actReleaseClaim p) rfl rfl (actReleaseClaim_of_holder held staged), ?_, fun q => ?_, rfl⟩⟩
  · exact answers_of_reply (act := actRequestClaim p) rfl rfl (actRequestClaim_of_free free)
  · exact answers_of_reply (act := actRequestClaim p) rfl rfl (actRequestClaim_of_own own)
  · exact answers_of_reply (act := actRequestClaim p) rfl rfl (actRequestClaim_of_new held other new)
  · exact answers_of_reply (act := actRequestClaim p) rfl rfl (actRequestClaim_of_waiting held other waiting first)
  · exact answers_of_refusal (act := actWithdraw p) .notWaiting rfl rfl (actWithdraw_of_absent absent)
  · exact answers_of_reply (act := actWithdraw p) rfl rfl (actWithdraw_of_split waiting notBefore notAfter)
  · exact answers_of_refusal (act := actReleaseClaim p) .denied rfl rfl (actReleaseClaim_of_other other)
  · simp only [toldClaim, passedOn, Bool.not_or, Bool.and_assoc, bne]
  · simp only [toldClaim, passedOn, ofFn_at, Bool.or_assoc]

/-! ### STAGE_PARAM, DISCARD and SET_QUOTA (R175, R177, R182) -/

theorem widthCodeOf_eq_some {v : Nat} {x : Fin 8} : widthCodeOf v = some x ↔ v = x.val := by
  unfold widthCodeOf
  split
  · simp [Fin.ext_iff]
  · simp only [reduceCtorEq, false_iff]
    omega

theorem polarityOf_eq_some {v : Nat} {x : Polarity} : polarityOf v = some x ↔ v = x.code := by
  rcases v with _ | _ | _ | v <;> cases x <;> simp [polarityOf, Polarity.code]

theorem eventEnableOf_eq_some {v : Nat} {x : EventEnable} : eventEnableOf v = some x ↔ v = x.code := by
  rcases v with _ | _ | _ | _ | v <;> cases x <;> simp [eventEnableOf, EventEnable.code]

theorem stepThresholdOf_eq_some {v : Nat} {x : StepThreshold} : stepThresholdOf v = some x ↔ v = x.code := by
  rcases v with _ | _ | _ | _ | v <;> cases x <;> simp [stepThresholdOf, StepThreshold.code]

theorem activeHighOf_eq_some {v : Nat} {x : Bool} : activeHighOf v = some x ↔ v = if x then 0 else 1 := by
  rcases v with _ | _ | v <;> cases x <;> simp [activeHighOf]

theorem exists_width_iff (v : Nat) : (∃ x : Fin 8, v = x.val) ↔ v ≤ 7 :=
  ⟨fun ⟨x, e⟩ => by omega, fun le => ⟨⟨v, by omega⟩, rfl⟩⟩

theorem exists_polarity_iff (v : Nat) : (∃ x : Polarity, v = x.code) ↔ v ≤ 2 := by
  refine ⟨fun ⟨x, e⟩ => ?_, fun le => ?_⟩
  · cases x <;> simp only [Polarity.code] at e <;> omega
  · interval_cases v
    exacts [⟨.rising, rfl⟩, ⟨.falling, rfl⟩, ⟨.both, rfl⟩]

theorem exists_eventEnable_iff (v : Nat) : (∃ x : EventEnable, v = x.code) ↔ v ≤ 3 := by
  refine ⟨fun ⟨x, e⟩ => ?_, fun le => ?_⟩
  · cases x <;> simp only [EventEnable.code] at e <;> omega
  · interval_cases v
    exacts [⟨.never, rfl⟩, ⟨.activate, rfl⟩, ⟨.deactivate, rfl⟩, ⟨.both, rfl⟩]

theorem exists_stepThreshold_iff (v : Nat) : (∃ x : StepThreshold, v = x.code) ↔ v ≤ 3 := by
  refine ⟨fun ⟨x, e⟩ => ?_, fun le => ?_⟩
  · cases x <;> simp only [StepThreshold.code] at e <;> omega
  · interval_cases v
    exacts [⟨.off, rfl⟩, ⟨.quarter, rfl⟩, ⟨.eighth, rfl⟩, ⟨.sixteenth, rfl⟩]

theorem exists_level_iff (v : Nat) : (∃ x : Bool, v = if x then 0 else 1) ↔ v ≤ 1 := by
  simp
  omega

/-- R174, R201: a parameter is written exactly where it allows the value. -/
theorem write_isSome_iff (c : RefConfig) (v : Nat) (q : Param) : (c.write v q).isSome = true ↔ allowed q v := by
  cases q <;>
    simp only [RefConfig.write, allowed, Option.isSome_map, Option.isSome_iff_exists, between_eq_some, depthOf_eq_some,
      widthCodeOf_eq_some, polarityOf_eq_some, eventEnableOf_eq_some, stepThresholdOf_eq_some, activeHighOf_eq_some,
      exists_and_left, exists_eq', and_true, Nat.zero_le, true_and, exists_width_iff, exists_polarity_iff,
      exists_eventEnable_iff, exists_stepThreshold_iff, exists_level_iff]

theorem withGate_gates_at (c : RefConfig) (n m : GateNo) (f : GateConfig → GateConfig) :
    (c.withGate n f).gates[m] = if n = m then f c.gates[m] else c.gates[m] := vmod_at _ _ _ _

/-- R175: the written parameter reads as the value, and the others as before. -/
theorem read_write {c d : RefConfig} {v : Nat} {q : Param} (e : c.write v q = some d) :
    d.read q = v ∧ ∀ r, r ≠ q → d.read r = c.read r := by
  cases q
  all_goals
    simp only [RefConfig.write, Option.map_eq_some_iff, between_eq_some, depthOf_eq_some, widthCodeOf_eq_some,
      polarityOf_eq_some, eventEnableOf_eq_some, stepThresholdOf_eq_some, activeHighOf_eq_some] at e
    obtain ⟨x, hx, rfl⟩ := e
  case gateLevel n | gateWidth n | gateEvent n | gateTag n =>
    refine ⟨?_, fun r other => ?_⟩
    · simp [-Fin.getElem_fin, RefConfig.read, withGate_gates_at, byteOf]
      omega
    · cases r
      case gateLevel m | gateWidth m | gateEvent m | gateTag m =>
        simp only [RefConfig.read, withGate_gates_at]
        split
        · next same => simp [same] at other ⊢
        · rfl
      all_goals rfl
  all_goals
    refine ⟨?_, fun r other => ?_⟩
    · simp only [RefConfig.read]
      omega
    · cases r <;> simp [RefConfig.read] at other ⊢

section Staging

variable {p : Port} {s : State} (held : s.cc.holder = some p)

include held

section StageParam

variable {id : Byte} {v : BitVec 24}

theorem actStageParam_of_pending (waits : s.cc.pendingRecord ≠ none) :
    actStageParam p id v s = (s, Reply.bare .pending) := by
  rw [actStageParam, holderOnly_holder _ held, if_pos (Option.isSome_iff_ne_none.2 waits)]

theorem actStageParam_of_range (free : s.cc.pendingRecord = none) (bad : ∀ q, paramOf id = some q → ¬allowed q v.toNat) :
    actStageParam p id v s = (s, Reply.bare .range) := by
  rw [actStageParam, holderOnly_holder _ held, if_neg (by simp [free])]
  split
  · next q c known _ =>
      have refused : c.write v.toNat q = none :=
        Option.not_isSome_iff_eq_none.1 fun written => bad q known ((write_isSome_iff c _ q).1 written)
      simp only [refused]
  · rfl
  · rfl

theorem actStageParam_of_allowed {q : Param} {c d : RefConfig} (free : s.cc.pendingRecord = none)
    (staged : s.cc.staged = some c) (known : paramOf id = some q) (written : c.write v.toNat q = some d) :
    actStageParam p id v s = ({ s with cc := { s.cc with staged := some d } }, ⟨.ok, id :: bytesOf24 v⟩) := by
  have value : be24 (d.read q) = bytesOf24 v := by
    rw [(read_write written).1, be24, BitVec.ofNat_toNat, BitVec.setWidth_eq]
  rw [actStageParam, holderOnly_holder _ held, if_neg (by simp [free])]
  simp only [known, staged, written, value]

end StageParam

theorem actDiscard_of_holder :
    actDiscard p s = ({ s with cc := { s.cc with staged := some s.cc.active } }, Reply.bare .ok) :=
  holderOnly_holder _ held

theorem actSetQuota_of_range {x y : Byte} (bad : 4 ≤ x.toNat ∨ 64 < y.toNat) :
    actSetQuota p x y s = (s, Reply.bare .range) := by
  rw [actSetQuota, holderOnly_holder _ held]
  rcases bad with port | quota
  · simp only [portOf_range port]
  · simp only [if_pos quota]
    cases portOf x <;> rfl

theorem actSetQuota_of_port (q : Port) {y : Byte} (inRange : y.toNat ≤ 64) :
    actSetQuota p (octet q.val) y s =
      ({ s with ctc := { s.ctc with quota := vmod s.ctc.quota q fun _ => y.toNat } }, ⟨.ok, [octet q.val, y]⟩) := by
  rw [actSetQuota, holderOnly_holder _ held]
  simp only [portOf_octet, if_neg (Nat.not_lt.2 inRange)]

end Staging

/-- Settles O49: PENDING, then RANGE, then the staged copy as the write of R174 leaves it; the active configuration; a
quota. -/
theorem holderStagesDiscardsAndSetsQuotas : Obligations.HolderStagesDiscardsAndSetsQuotas := by
  unfold Obligations.HolderStagesDiscardsAndSetsQuotas
  refine fun p id x y v s held => ⟨fun waits => ?_, fun free bad => ?_, fun q c free staged known value => ?_, ?_,
    fun bad => ?_, fun q number quota => ?_⟩
  · exact answers_of_refusal (act := actStageParam p id v) .pending rfl rfl (actStageParam_of_pending held waits)
  · exact answers_of_refusal (act := actStageParam p id v) .range rfl rfl (actStageParam_of_range held free bad)
  · obtain ⟨d, written⟩ := Option.isSome_iff_exists.1 ((write_isSome_iff c _ q).2 value)
    obtain ⟨this, others⟩ := read_write written
    exact ⟨d, this, others, answers_of_reply (act := actStageParam p id v) rfl rfl
      (actStageParam_of_allowed held free staged known written)⟩
  · exact answers_of_reply (act := actDiscard p) rfl rfl (actDiscard_of_holder held)
  · exact answers_of_refusal (act := actSetQuota p x y) .range rfl rfl (actSetQuota_of_range held bad)
  · subst number
    exact answers_of_reply (act := actSetQuota p _ y) rfl rfl (actSetQuota_of_port held q quota)

end Sys2Proof.Proofs
end

section
/-! PROOFS. Nothing but ARM_ENTRY makes an entry ARMING (R89 to R91): what FS, the reference path and the application of a
record do to a table without one. -/

namespace Sys2Proof.Proofs

open Sys2Proof Sys2Proof.Machine Sys2Proof.Safety

/-- No entry is ARMING. -/
def NoArming (T : Table) : Prop := ∀ i, (T.entry i).state ≠ .arming

/-! ### The moves of FS (R91, R118 to R120) -/

theorem NoArming.setEntry {T : Table} (h : NoArming T) (i : EntryNo) {e : EntryFacts} (other : e.state ≠ .arming) :
    NoArming (T.setEntry i e) := by
  intro j
  by_cases same : j = i
  · subst same
    rwa [Table.setEntry_entry_self]
  · rw [Table.setEntry_entry_ne _ _ same]
    exact h j

theorem NoArming.held {T : Table} (h : NoArming T) (i : EntryNo) : NoArming (T.withState i .held) :=
  h.setEntry i fun e => nomatch e

theorem NoArming.opened {T : Table} (h : NoArming T) (i : EntryNo) : NoArming (T.opened i) := h.setEntry i (h i)

theorem NoArming.closed {T : Table} (h : NoArming T) (i : EntryNo) : NoArming (T.closed i) := h.setEntry i (h i)

/-- R91: afterwards none is, whatever the table was. -/
theorem noArming_activated (T : Table) : NoArming T.activated := by
  intro i
  show (if (T.entry i).state = .arming then EntryState.live else (T.entry i).state) ≠ .arming
  split
  · decide
  · assumption

/-! ### Firing (R116 to R120) and the forced close (R123) -/

theorem closeWindow_noArming (o : Occasion) (i : EntryNo) : KeepsTable NoArming (closeWindow o i) := fun s h =>
  tableOf_closeWindow o i s ▸ NoArming.closed h i

theorem spend_noArming (o : Occasion) (i : EntryNo) : KeepsTable NoArming (spend o i) := fun s h =>
  tableOf_spend o i s ▸ NoArming.held h i

theorem firePointStart_noArming (o : Occasion) (i : EntryNo) : KeepsTable NoArming (firePointStart o i) := by
  intro s h
  have counted : NoArming
      (tableOf ((postEntry .fire o i (startAction s.ctc.entries[i].image s)).modEntry i (Entry.countStart o))) := by
    rwa [tableOf_modEntry_of_facts rfl, tableOf_postEntry, tableOf_startAction]
  unfold firePointStart
  simp only
  split
  · split
    · exact spend_noArming o i _ counted
    · exact counted
  · rwa [tableOf_refuseStart]

theorem fireWindowStart_noArming (o : Occasion) (i : EntryNo) : KeepsTable NoArming (fireWindowStart o i) := by
  intro s h
  unfold fireWindowStart
  simp only
  split
  · exact h
  · split
    · rw [tableOf_modEntry_of_facts rfl, tableOf_postEntry,
        tableOf_onTrack_count _ Track.windowUp (· + 1) _ fun _ => ⟨rfl, rfl⟩, tableOf_modEntry]
      exact NoArming.opened h i
    · rwa [tableOf_refuseStart]

theorem fireWindowEnd_noArming (o : Occasion) (i : EntryNo) : KeepsTable NoArming (fireWindowEnd o i) := by
  intro s h
  unfold fireWindowEnd
  split
  · split
    · exact spend_noArming o i _ (closeWindow_noArming o i s h)
    · exact closeWindow_noArming o i s h
  · exact h

theorem fire_noArming (o : Occasion) (i : EntryNo) (pt : Point) : KeepsTable NoArming (fire o i pt) := by
  intro s h
  have marked : NoArming (tableOf (markTaken i pt s)) := h
  unfold fire
  simp only
  split
  · split
    · exact fireWindowStart_noArming o i _ marked
    · exact fireWindowEnd_noArming o i _ marked
    · exact firePointStart_noArming o i _ marked
    · exact firePointStart_noArming o i _ marked
    · exact firePointStart_noArming o i _ marked
    · exact firePointStart_noArming o i _ marked
    · exact marked
    · exact marked
    · exact marked
    · exact marked
  · exact marked

theorem forceClose_noArming (spends : Bool) (i : EntryNo) : KeepsTable NoArming (forceClose spends i) := by
  intro s h
  unfold forceClose
  split
  · simp only
    split
    · exact spend_noArming _ i _ (closeWindow_noArming _ i s h)
    · exact closeWindow_noArming _ i s h
  · exact h

/-! ### A step at the scheduler (R105 to R111), the teardown and HOLDOVER (R125, R127) -/

theorem activateArming_noArming (s : State) : NoArming (tableOf (activateArming s)) :=
  tableOf_activateArming s ▸ noArming_activated (tableOf s)

theorem enumeratePoint_noArming (b stop : Nat) (period : Option Nat) (i : EntryNo) (pt : Point) :
    KeepsTable NoArming (enumeratePoint b stop period i pt) := by
  intro s h
  unfold enumeratePoint
  split
  · exact h
  · split
    · split
      · exact fire_noArming _ i pt s h
      · split
        · exact h
        · rwa [tableOf_addTicket]
    · exact h

theorem stepEnumeration_noArming (rep : StepReport) : KeepsTable NoArming (stepEnumeration rep) := by
  intro s h
  unfold stepEnumeration
  split
  · refine keepsTable_foldl (fun t i ht => ?_) allEntries s h
    unfold enumerateEntry
    split
    · exact enumeratePoint_noArming _ _ _ i _ _ (enumeratePoint_noArming _ _ _ i _ t ht)
    · exact ht
  · exact h

theorem flushTickets_noArming (angle fuel : Nat) : KeepsTable NoArming (flushTickets angle fuel) := by
  induction fuel with
  | zero => exact fun _ h => h
  | succ fuel ih =>
      intro s h
      unfold flushTickets
      split
      · exact h
      · exact ih _ (fire_noArming _ _ _ _ h)

theorem fireDeferred_noArming (angle : Nat) (cycle : Option Cycle) (fuel : Nat) :
    KeepsTable NoArming (fireDeferred angle cycle fuel) := by
  induction fuel with
  | zero => exact fun _ h => h
  | succ fuel ih =>
      intro s h
      unfold fireDeferred
      split
      · exact h
      · exact ih _ (fire_noArming _ _ _ _ h)

theorem holdoverDiscard_noArming : KeepsTable NoArming holdoverDiscard := by
  intro s h
  unfold holdoverDiscard
  simp only
  rw [foldl_removePoints Entry.pausing]
  refine keepsTable_foldl (fun t i ht => ?_) allEntries (withoutPoints _ s) h
  split
  · exact forceClose_noArming true i t ht
  · exact ht

/-! ### The reference path, for any application of a commit (R35 to R76) -/

section Application

variable {ap : State → State} (keeps : KeepsTable NoArming ap)

include keeps

theorem schedulerStep_noArming (rep : StepReport) : KeepsTable NoArming (schedulerStep ap rep) := by
  intro s h
  have flushed : NoArming (tableOf (clearTaken rep.cycle (flushDeferred (toothAngle s.cc.active.toothCount rep.tooth)
      (flushTickets (toothAngle s.cc.active.toothCount rep.tooth) s.fs.tickets.length s)))) := by
    rw [tableOf_clearTaken]
    exact fireDeferred_noArming _ _ _ _ (flushTickets_noArming _ _ s h)
  refine stepEnumeration_noArming rep _ ?_
  unfold stepActivation
  split
  · exact keeps _ (activateArming_noArming _)
  · exact flushed

/-- R125: a departure activates what is ARMING. -/
theorem departFrom_noArming (before : State) : KeepsTable NoArming (departFrom ap before) := by
  intro s h
  unfold departFrom
  split
  · exact keeps _ (activateArming_noArming _)
  · exact h

theorem enterSearch_noArming : KeepsTable NoArming (enterSearch ap) := by
  intro s h
  unfold enterSearch
  rw [tableOf_goOnToStopped]
  refine departFrom_noArming keeps s _ ?_
  rwa [tableOf_startStandstill, tableOf_fall]

theorem enterAcquire_noArming : KeepsTable NoArming (enterAcquire ap) := by
  intro s h
  unfold enterAcquire
  rw [tableOf_goOnToStopped]
  refine departFrom_noArming keeps s _ ?_
  rwa [tableOf_moveLock]

theorem standstillExpires_noArming : KeepsTable NoArming (standstillExpires ap) := by
  intro s h
  have expired : NoArming (tableOf (setStandstill .expired s)) := h
  unfold standstillExpires
  simp only
  split
  · rwa [tableOf_fall]
  · rwa [tableOf_fall]
  · split
    · exact enterSearch_noArming keeps _ expired
    · exact expired
  · split
    · exact enterSearch_noArming keeps _ expired
    · exact expired
  · exact expired
  · exact expired

omit keeps in
theorem enterHoldover_noArming : KeepsTable NoArming enterHoldover := by
  intro s h
  refine holdoverDiscard_noArming _ ?_
  rwa [tableOf_moveLock]

theorem supervise_noArming (rep : StepReport) : KeepsTable NoArming (supervise ap rep) := by
  intro s h
  have judged : NoArming (tableOf (judgeStep rep (noteSynth rep s))) := by simpa using h
  have counted : NoArming (tableOf (judgeStep rep (countHoldover rep (noteSynth rep s)))) := by simpa using h
  unfold supervise
  split
  · exact h
  · split
    · exact enterAcquire_noArming keeps s h
    · exact h
  · unfold stepInAcquire
    simp only
    split_ifs
    · exact enterSearch_noArming keeps _ judged
    · rwa [tableOf_enterLocked]
    · exact judged
  · unfold stepInLocked
    simp only
    split_ifs
    · exact enterAcquire_noArming keeps _ judged
    · exact enterHoldover_noArming _ judged
    · rwa [tableOf_countSettle]
    · exact judged
  · unfold stepInHoldover
    simp only
    split_ifs
    · exact enterSearch_noArming keeps _ counted
    · exact enterAcquire_noArming keeps _ counted
    · rwa [tableOf_enterLocked]
    · exact counted
  · exact h

theorem handStep_noArming (rep : StepReport) : KeepsTable NoArming (handStep ap rep) := by
  intro s h
  refine schedulerStep_noArming keeps rep _ (supervise_noArming keeps rep _ ?_)
  rwa [tableOf_handOverNoise]

theorem generatorEdge_noArming : KeepsTable NoArming (generatorEdge ap) := by
  intro s h
  have noticed : NoArming (tableOf { realEdgeNotice s with ag := { (realEdgeNotice s).ag with synthSinceReal := false } }) :=
    (tableOf_realEdgeNotice s).symm ▸ h
  have moved : NoArming (tableOf (if inLateWindow s then
      lateAcceptance { realEdgeNotice s with ag := { (realEdgeNotice s).ag with synthSinceReal := false } }
      else realStep ap { realEdgeNotice s with ag := { (realEdgeNotice s).ag with synthSinceReal := false } })) := by
    split
    · exact noticed
    · exact handStep_noArming keeps _ _ noticed
  unfold generatorEdge
  simp only
  split
  · exact noticed
  · split
    · exact handStep_noArming keeps _ _ noticed
    · exact noticed
  · exact moved
  · exact moved
  · exact moved
  · exact noticed

theorem edgeArrives_noArming (line : LineId) : KeepsTable NoArming (edgeArrives ap line) := by
  intro s h
  have tracked : NoArming (tableOf (openBlanking (trackEdge s))) := (tableOf_trackEdge s).symm ▸ h
  unfold edgeArrives toothEdge
  split
  · split_ifs
    · exact h
    · exact generatorEdge_noArming keeps _ tracked
    · exact h
  · split
    · rwa [tableOf_indexArrival]
    · exact h
  · exact h

end Application

/-! ### The application of a record (R179) -/

theorem classAEffects_noArming : KeepsTable NoArming classAEffects := by
  intro s h
  have fallen (u : State) (hu : NoArming (tableOf u)) : NoArming (tableOf (setStandstill (.running 0) (fall .search u))) := by
    rwa [tableOf_setStandstill, tableOf_fall]
  unfold classAEffects classALock
  simp only
  split
  · exact h
  · exact fallen _ h
  · exact departFrom_noArming keepsTable_id _ _ (fallen _ h)
  · exact departFrom_noArming keepsTable_id _ _ (fallen _ h)
  · exact departFrom_noArming keepsTable_id _ _ (fallen _ h)
  · exact h

theorem judgeStandstillLimit_noArming : KeepsTable NoArming judgeStandstillLimit := by
  intro s h
  unfold judgeStandstillLimit
  simp only
  split
  · exact standstillExpires_noArming keepsTable_id _ h
  · exact h

theorem requalify_noArming (old : RefConfig) : KeepsTable NoArming (requalify old) := by
  intro s h
  unfold requalify
  refine keepsTable_foldl (fun u n hu => ?_) _ _ ?_
  · rwa [tableOf_reevaluateGate]
  · refine keepsTable_foldl (fun u line hu => ?_) _ _ h
    unfold expireAtApplication
    split
    · exact edgeArrives_noArming keepsTable_id line _ ((tableOf_settleLine line u).symm ▸ hu)
    · exact hu

theorem applyRecord_noArming (new : RefConfig) : KeepsTable NoArming (applyRecord new) := by
  intro s h
  have carried (old : RefConfig) (u : State) (hu : NoArming (tableOf u)) : NoArming (tableOf (carryOutChange old new u)) := by
    have classA : NoArming (tableOf (if classAChanged old new then classAEffects u else u)) := by
      split
      · exact classAEffects_noArming u hu
      · exact hu
    have depths (t : State) (ht : NoArming (tableOf t)) : NoArming (tableOf
        (if old.acquireDepth ≠ new.acquireDepth ∨ old.lockedDepth ≠ new.lockedDepth then reevaluateDepth old t
          else t)) := by
      split
      · rwa [tableOf_reevaluateDepth]
      · exact ht
    unfold carryOutChange
    simp only
    refine requalify_noArming old _ ?_
    split
    · exact judgeStandstillLimit_noArming _ (depths _ classA)
    · exact depths _ classA
  unfold applyRecord
  simp only
  rw [tableOf_tellHolder]
  split
  · exact h
  · exact carried _ _ h

end Sys2Proof.Proofs
end

section
/-! PROOFS. COMMIT and the application of a record (R109, R125, R178 to R180): where a record is captured, waits and is
applied, and what an application does to the claim's block. -/

namespace Sys2Proof.Proofs

open Sys2Proof Sys2Proof.Machine Sys2Proof.Safety

/-! ### The application in its parts (R179) -/

/-- Part 1: the record is the active configuration, and none waits. -/
def recorded (new : RefConfig) (s : State) : State :=
  { s with cc := { s.cc with active := new, pendingRecord := none } }

/-- Parts 1 to 4: what the record changes is carried out. -/
def changed (new : RefConfig) (s : State) : State :=
  if new = s.cc.active then recorded new s else carryOutChange s.cc.active new (recorded new s)

theorem applyRecord_eq_tellHolder (new : RefConfig) (s : State) : applyRecord new s = tellHolder (changed new s) := rfl

/-- What the record changes is carried out outside the claim's block. -/
theorem changed_cc (new : RefConfig) (s : State) : (changed new s).cc = (recorded new s).cc := by
  have leaves : Closed (fun s t => t.cc = s.cc) id :=
    { trans := fun a b => b.trans a, firing := fun f => f.cc, parts := fun _ _ _ _ _ _ => rfl, lockCause := fun _ => rfl,
      application := fun _ => rfl }
  unfold changed
  split
  · rfl
  · exact leaves.carryOutChange _ _ _

/-- The holder's staged copy is the active configuration. -/
def restaged (s : State) : State :=
  { s with cc := { s.cc with staged := if s.cc.holder = none then s.cc.staged else some s.cc.active } }

/-- Part 5: a holder gets a fresh staged copy, and is told. -/
theorem tellHolder_eq_toldClaim (s : State) : tellHolder s = toldClaim (fun q => s.cc.holder == some q) (restaged s) := by
  unfold tellHolder
  split
  · next free =>
      have same : restaged s = s := by rw [restaged, if_pos free]
      rw [same, toldClaim_nobody]
      exact fun q => by rw [free]; rfl
  · next h held =>
      have told : (fun q => h == q) = fun q => s.cc.holder == some q := by rw [held]; rfl
      rw [setClaimCause_eq_toldClaim, told]
      refine congrArg (toldClaim _) ?_
      rw [restaged, if_neg (by rw [held]; exact Option.some_ne_none h)]

/-- The claim's block after an application (R172, R179). -/
theorem applyRecord_cc (new : RefConfig) (s : State) :
    (applyRecord new s).cc = { s.cc with
      active := new
      pendingRecord := none
      staged := if s.cc.holder = none then s.cc.staged else some new
      claimMarks := Vector.ofFn fun p => s.cc.claimMarks[p] && s.cc.holder != some p } := by
  rw [applyRecord_eq_tellHolder, tellHolder_eq_toldClaim]
  simp only [toldClaim, restaged, changed_cc]
  rfl

theorem applyRecord_claimCause {new : RefConfig} {s : State} {p : Port} (held : s.cc.holder = some p) :
    (applyRecord new s).er[p].claimCause = true := by
  have holder : (changed new s).cc.holder = some p := by rw [changed_cc]; exact held
  rw [applyRecord_eq_tellHolder, tellHolder_eq_toldClaim]
  simp only [toldClaim, ofFn_at, holder, beq_self_eq_true, Bool.or_true]

/-! ### COMMIT (R178) -/

section Commit

variable {p : Port} {s : State} {c : RefConfig} (held : s.cc.holder = some p)

include held

theorem actCommit_of_pending (waits : s.cc.pendingRecord ≠ none) : actCommit p s = (s, Reply.bare .pending) := by
  obtain ⟨r, waits⟩ := Option.ne_none_iff_exists'.1 waits
  rw [actCommit, holderOnly_holder _ held]
  simp only [waits]

theorem actCommit_inside (free : s.cc.pendingRecord = none) (staged : s.cc.staged = some c) (inside : s.inFiring = true) :
    actCommit p s = ({ s with cc := { s.cc with pendingRecord := some c } }, ⟨.ok, [1]⟩) := by
  rw [actCommit, holderOnly_holder _ held]
  simp only [free, staged, if_pos inside]

theorem actCommit_outside (free : s.cc.pendingRecord = none) (staged : s.cc.staged = some c) (outside : s.inFiring = false) :
    actCommit p s = (applyRecord c s, ⟨.ok, [0]⟩) := by
  rw [actCommit, holderOnly_holder _ held]
  simp only [free, staged, outside, Bool.false_eq_true, if_false]

end Commit

/-! ### A record that waits is applied (R109, R125, R180) -/

theorem applyPending_of_waiting {r : RefConfig} {s : State} (waits : s.cc.pendingRecord = some r) :
    applyPending s = applyRecord r s := by
  simp only [applyPending, waits]

/-- The record r has been applied behind an activation. -/
def Applied (r : RefConfig) (t : State) : Prop :=
  t.cc.active = r ∧ t.cc.pendingRecord = none ∧ ∀ i : EntryNo, t.ctc.entries[i].state ≠ .arming

theorem applied_of_activated {r : RefConfig} {s : State} (waits : s.cc.pendingRecord = some r) :
    Applied r (applyPending (activateArming s)) := by
  rw [applyPending_of_waiting (s := activateArming s) waits]
  obtain ⟨free, active⟩ := applyRecord_pending r (activateArming s)
  exact ⟨active, free, applyRecord_noArming r _ (activateArming_noArming s)⟩

/-- R109: FS applies it at a tooth-0 step in the firing set. -/
theorem schedulerStep_applied {rep : StepReport} {r : RefConfig} {s : State} (first : rep.tooth = 0)
    (inside : s.inFiring = true) (waits : s.cc.pendingRecord = some r) : Applied r (schedulerStep applyPending rep s) := by
  have flushed := stepFlush_frame (toothAngle s.cc.active.toothCount rep.tooth) rep.cycle s
  have activates (u : State) (inside : u.inFiring = true) :
      stepActivation applyPending rep u = applyPending (activateArming u) := by
    simp only [stepActivation, first, inside, decide_true, Bool.and_self, if_true]
  unfold schedulerStep
  simp only
  rw [activates _ (flushed.inFiring.trans inside)]
  obtain ⟨active, free, noArming⟩ := applied_of_activated (r := r)
    ((congrArg ClaimController.pendingRecord flushed.cc).trans waits)
  have enumerated := stepEnumeration_frame rep (applyPending (activateArming (clearTaken rep.cycle
    (flushDeferred (toothAngle s.cc.active.toothCount rep.tooth)
      (flushTickets (toothAngle s.cc.active.toothCount rep.tooth) s.fs.tickets.length s)))))
  refine ⟨?_, ?_, stepEnumeration_noArming rep _ noArming⟩
  · rw [enumerated.cc, active]
  · rw [enumerated.cc, free]

/-- R125 part 5: the teardown of a departure applies it. -/
theorem teardown_applied {r : RefConfig} {s : State} (waits : s.cc.pendingRecord = some r) :
    Applied r (teardown applyPending s) := by
  have frame := ((discardLists_frame s).trans (forceCloseAll_frame _)).trans (applyOnLoss_frame _)
  rw [teardown]
  exact applied_of_activated ((congrArg ClaimController.pendingRecord frame.cc).trans waits)

theorem Applied.goOnToStopped {r : RefConfig} {s : State} (h : Applied r s) : Applied r (goOnToStopped s) := by
  obtain ⟨active, free, noArming⟩ := h
  rw [goOnToStopped_eq]
  split
  · exact ⟨active, free, noArming⟩
  · exact ⟨active, free, noArming⟩

section FreeStep

variable {s : State} (freerun : s.ls.lock = .freerun)

include freerun

theorem freeRunStep_applied {r : RefConfig} (waits : s.cc.pendingRecord = some r)
    (first : (s.ag.tooth + 1) % s.cc.active.toothCount = 0) : Applied r (freeRunStep applyPending s) := by
  rw [freeRunStep_eq _ freerun]
  refine schedulerStep_applied first ?_ ?_
  · rw [handOverNoise_eq]
    exact inFiring_of_freerun freerun
  · rw [handOverNoise_eq]
    exact waits

theorem freeRunStep_cc_of_tooth_ne (other : (s.ag.tooth + 1) % s.cc.active.toothCount ≠ 0) :
    (freeRunStep applyPending s).cc = s.cc := by
  rw [freeRunStep_eq _ freerun]
  refine (schedulerStep_frame_of_tooth_ne applyPending other _).cc.trans ?_
  rw [handOverNoise_eq]
  rfl

end FreeStep

theorem standstillExpires_applied {r : RefConfig} {s : State} (waits : s.cc.pendingRecord = some r)
    (inside : s.inFiring = true) (high : s.ls.lock = .locked ∨ s.ls.lock = .holdover) (missing : s.ag.deadline = none) :
    Applied r (standstillExpires applyPending s) := by
  have other : (setStandstill .expired s).ls.lock ≠ .search := by rcases high with e | e <;> simp [e]
  have insideStill : (setStandstill .expired s).inFiring = true := inside
  have waitsStill : (searched (setStandstill .expired s)).cc.pendingRecord = some r := waits
  rw [standstillExpires_searches _ high missing, enterSearch_eq _ other, departFrom_of_inside _ insideStill]
  exact (teardown_applied waitsStill).goOnToStopped

/-- Settles O50: PENDING, the capture or the application; a record that waits is applied behind the activation, at a tooth-0
step and in a departure. -/
theorem commitWaitsOrApplies : Obligations.CommitWaitsOrApplies := by
  unfold Obligations.CommitWaitsOrApplies
  refine fun p s => ⟨fun held => ⟨fun waits => ?_, fun c free staged inside => ?_, fun c free staged outside => ?_⟩,
    applyPending_none s, fun r waits => ⟨applyPending_of_waiting waits, fun freerun running due => ?_,
      fun n timer exceeded inside high missing => ?_⟩⟩
  · exact answers_of_refusal (act := actCommit p) .pending rfl rfl (actCommit_of_pending held waits)
  · exact answers_of_reply (act := actCommit p) rfl rfl (actCommit_inside held free staged inside)
  · have frame := applyRecord_reference c s
    refine ⟨applyRecord c s, ?_, rfl, ?_, frame.holder.trans held, frame.waiting, applyRecord_claimCause held, frame.quota,
      frame.owned, frame.pi, frame.pending, frame.stamp⟩
    · exact answers_of_reply (act := actCommit p) rfl rfl (actCommit_outside held free staged outside)
    · rw [applyRecord_cc, held]
      rfl
  · have due : freeStepDue s = true := (freeStepDue_iff s).2 ⟨freerun, running, due⟩
    exact ⟨_, congrArg Host.Outcome.next (if_pos due), freeRunStep_applied freerun waits,
      freeRunStep_cc_of_tooth_ne freerun⟩
  · exact ⟨_, exec_standstillExpiry_of_running timer exceeded, standstillExpires_applied waits inside high missing⟩

end Sys2Proof.Proofs
end

section
/-! PROOFS. EQ's part of an application (R3, R10, R11, R13, R179): what the six lines and the gate inputs are after the runs
that expire and the re-evaluations, in whatever order they are taken. -/

namespace Sys2Proof.Proofs

open Sys2Proof Sys2Proof.Machine Sys2Proof.Safety

/-! ### What the six lines and the gate inputs are judged by -/

/-- The lines, the gate inputs and what they are judged by. -/
structure Inputs where
  tooth : FilterLine
  index : FilterLine
  gates : Vector FilterLine 4
  active : Vector Bool 4
  latches : Vector (Vector Marked 4) 4
  config : RefConfig
  stamp : Stamp

def inputsOf (s : State) : Inputs where
  tooth := s.eq.tooth
  index := s.eq.index
  gates := s.eq.gates
  active := s.eq.active
  latches := s.eq.latches
  config := s.cc.active
  stamp := s.stamp

theorem inputsOf_of_frame {s t : State} (h : FiringFrame s t) : inputsOf t = inputsOf s := by
  simp only [inputsOf, h.eq, h.cc, h.stamp]

theorem line_of_inputsOf {s t : State} (same : inputsOf t = inputsOf s) (line : LineId) : t.eq.line line = s.eq.line line := by
  cases line with
  | tooth => exact congrArg Inputs.tooth same
  | index => exact congrArg Inputs.index same
  | gate n => exact congrArg (fun v : Inputs => v.gates[n]) same

theorem runDue_of_inputsOf {s t : State} (same : inputsOf t = inputsOf s) (line : LineId) : runDue line t = runDue line s := by
  have config : t.cc.active = s.cc.active := congrArg Inputs.config same
  have stamp : t.stamp = s.stamp := congrArg Inputs.stamp same
  simp only [runDue, line_of_inputsOf same, config, stamp]

theorem gateActiveNow_of_inputsOf {s t : State} (same : inputsOf t = inputsOf s) (n : GateNo) :
    gateActiveNow t n = gateActiveNow s n := by
  have config : t.cc.active = s.cc.active := congrArg Inputs.config same
  have gates : t.eq.gates = s.eq.gates := congrArg Inputs.gates same
  simp only [gateActiveNow, config, gates]

/-! ### Edges and transitions leave the inputs (R5 to R9, R35 to R76) -/

theorem inputsOf_moveLock (l : LockState) (s : State) : inputsOf (moveLock l s) = inputsOf s := by
  rw [moveLock_eq]
  rfl

theorem inputsOf_fall (l : LockState) (s : State) : inputsOf (fall l s) = inputsOf s := by
  rw [fall_eq]
  rfl

theorem inputsOf_goOnToStopped (s : State) : inputsOf (goOnToStopped s) = inputsOf s := by
  unfold goOnToStopped
  split
  · exact inputsOf_fall _ s
  · rfl

theorem inputsOf_startStandstill (s : State) : inputsOf (startStandstill s) = inputsOf s := by
  unfold startStandstill
  split <;> rfl

theorem inputsOf_departFrom (before s : State) : inputsOf (departFrom id before s) = inputsOf s := by
  unfold departFrom
  split
  · exact inputsOf_of_frame (teardownParts_frame s)
  · rfl

theorem inputsOf_enterSearch (s : State) : inputsOf (enterSearch id s) = inputsOf s := by
  rw [enterSearch, inputsOf_goOnToStopped, inputsOf_departFrom, inputsOf_startStandstill, inputsOf_fall]

theorem inputsOf_enterAcquire (s : State) : inputsOf (enterAcquire id s) = inputsOf s := by
  rw [enterAcquire, inputsOf_goOnToStopped, inputsOf_departFrom, inputsOf_moveLock]
  rfl

theorem inputsOf_enterLocked (n : Nat) (s : State) : inputsOf (enterLocked n s) = inputsOf s := by
  rw [enterLocked, inputsOf_moveLock]
  rfl

theorem inputsOf_enterHoldover (s : State) : inputsOf (enterHoldover s) = inputsOf s := by
  rw [enterHoldover, inputsOf_of_frame (holdoverDiscard_frame _), inputsOf_moveLock]
  rfl

theorem inputsOf_standstillExpires (s : State) : inputsOf (standstillExpires id s) = inputsOf s := by
  have expired : inputsOf (setStandstill .expired s) = inputsOf s := rfl
  unfold standstillExpires
  simp only
  split
  · exact (inputsOf_fall _ _).trans expired
  · exact (inputsOf_fall _ _).trans expired
  · split
    · exact (inputsOf_enterSearch _).trans expired
    · exact expired
  · split
    · exact (inputsOf_enterSearch _).trans expired
    · exact expired
  · exact expired
  · exact expired

theorem inputsOf_judgeStep (rep : StepReport) (s : State) : inputsOf (judgeStep rep s) = inputsOf s := by
  unfold judgeStep
  split <;> rfl

theorem inputsOf_noteSynth (rep : StepReport) (s : State) : inputsOf (noteSynth rep s) = inputsOf s := by
  unfold noteSynth
  split <;> rfl

theorem inputsOf_countHoldover (rep : StepReport) (s : State) : inputsOf (countHoldover rep s) = inputsOf s := by
  unfold countHoldover
  split <;> rfl

theorem inputsOf_countSettle (s : State) : inputsOf (countSettle s) = inputsOf s := by
  unfold countSettle
  simp only
  split_ifs <;> rfl

theorem inputsOf_supervise (rep : StepReport) (s : State) : inputsOf (supervise id rep s) = inputsOf s := by
  have judged : inputsOf (judgeStep rep (noteSynth rep s)) = inputsOf s := by
    rw [inputsOf_judgeStep, inputsOf_noteSynth]
  have counted : inputsOf (judgeStep rep (countHoldover rep (noteSynth rep s))) = inputsOf s := by
    rw [inputsOf_judgeStep, inputsOf_countHoldover, inputsOf_noteSynth]
  unfold supervise
  split
  · rfl
  · split
    · exact inputsOf_enterAcquire s
    · rfl
  · unfold stepInAcquire
    simp only
    split_ifs
    · exact (inputsOf_enterSearch _).trans judged
    · exact (inputsOf_enterLocked _ _).trans judged
    · exact judged
  · unfold stepInLocked
    simp only
    split_ifs
    · exact (inputsOf_enterAcquire _).trans judged
    · exact (inputsOf_enterHoldover _).trans judged
    · exact (inputsOf_countSettle _).trans judged
    · exact judged
  · unfold stepInHoldover
    simp only
    split_ifs
    · exact (inputsOf_enterSearch _).trans counted
    · exact (inputsOf_enterAcquire _).trans counted
    · exact (inputsOf_enterLocked _ _).trans counted
    · exact counted
  · rfl

/-- Within an application FS has no commit to apply. -/
theorem schedulerStep_id_frame (rep : StepReport) (s : State) : FiringFrame s (schedulerStep id rep s) := by
  have activated (u : State) : FiringFrame u (stepActivation id rep u) := by
    unfold stepActivation
    split
    · exact activateArming_frame u
    · exact .refl u
  exact ((stepFlush_frame _ _ s).trans (activated _)).trans (stepEnumeration_frame rep _)

theorem inputsOf_handStep (rep : StepReport) (s : State) : inputsOf (handStep id rep s) = inputsOf s := by
  rw [handStep, inputsOf_of_frame (schedulerStep_id_frame rep _), inputsOf_supervise, handOverNoise_eq]
  rfl

theorem inputsOf_realEdgeNotice (s : State) : inputsOf (realEdgeNotice s) = inputsOf s := by
  unfold realEdgeNotice
  simp only
  split
  · exact inputsOf_fall _ _
  · rfl

theorem inputsOf_generatorEdge (s : State) : inputsOf (generatorEdge id s) = inputsOf s := by
  have noticed : inputsOf { realEdgeNotice s with ag := { (realEdgeNotice s).ag with synthSinceReal := false } } = inputsOf s :=
    inputsOf_realEdgeNotice s
  have moved : inputsOf (if inLateWindow s then
      lateAcceptance { realEdgeNotice s with ag := { (realEdgeNotice s).ag with synthSinceReal := false } }
      else realStep id { realEdgeNotice s with ag := { (realEdgeNotice s).ag with synthSinceReal := false } }) = inputsOf s := by
    split
    · exact noticed
    · exact (inputsOf_handStep _ _).trans noticed
  unfold generatorEdge
  simp only
  split
  · exact noticed
  · split
    · exact (inputsOf_handStep _ _).trans noticed
    · exact noticed
  · exact moved
  · exact moved
  · exact moved
  · exact noticed

theorem inputsOf_edgeArrives (line : LineId) (s : State) : inputsOf (edgeArrives id line s) = inputsOf s := by
  have tracked : inputsOf (openBlanking (trackEdge s)) = inputsOf s := by
    rw [trackEdge_frame]
    rfl
  unfold edgeArrives toothEdge
  split
  · split_ifs
    · rfl
    · exact (inputsOf_generatorEdge _).trans tracked
    · rfl
  · split
    · rw [indexArrival_eq]
      split_ifs <;> rfl
    · rfl
  · rfl

/-! ### Free orders -/

/-- A free order takes every member, each as often as the list has it. -/
theorem freeOrder_perm {α : Type} (fuel count : Nat) (l : List α) : (freeOrder fuel count l).Perm l := by
  induction fuel generalizing count l with
  | zero =>
      match l with
      | [] => exact .nil
      | [a] => exact .refl _
      | a :: b :: rest => exact .refl _
  | succ fuel ih =>
      match l with
      | [] => exact .nil
      | [a] => exact .refl _
      | a :: b :: rest =>
          unfold freeOrder
          split
          · next picked at_ =>
              obtain ⟨inside, rfl⟩ := List.getElem?_eq_some_iff.1 at_
              exact ((ih _ _).cons _).trans (List.getElem_cons_eraseIdx_perm inside)
          · exact .refl _

/-! ### The runs that expire (R2, R3) -/

theorem inputsOf_expireAtApplication (s : State) (line : LineId) :
    inputsOf (expireAtApplication s line) = inputsOf (if runDue line s = true then settleLine line s else s) := by
  unfold expireAtApplication
  split
  · exact inputsOf_edgeArrives line _
  · rfl

/-- A line settled by its raw level, with no run. -/
def settledLine (l : FilterLine) : FilterLine := ⟨l.raw, l.raw, none⟩

theorem line_expireAtApplication (s : State) (line other : LineId) :
    (expireAtApplication s line).eq.line other
      = if other = line ∧ runDue line s = true then settledLine (s.eq.line other) else s.eq.line other := by
  rw [line_of_inputsOf (inputsOf_expireAtApplication s line)]
  by_cases due : runDue line s = true
  · rw [if_pos due]
    by_cases same : other = line
    · rw [if_pos ⟨same, due⟩, same]
      exact setLine_line_self line _ s
    · rw [if_neg fun h => same h.1]
      exact setLine_line_ne same _ s
  · rw [if_neg due, if_neg fun h => due h.2]

/-- What stays of the inputs while runs expire: everything but the lines. -/
theorem expireAtApplication_rest (s : State) (line : LineId) :
    let t := expireAtApplication s line
    t.eq.active = s.eq.active ∧ t.eq.latches = s.eq.latches ∧ t.cc.active = s.cc.active ∧ t.stamp = s.stamp := by
  have same := inputsOf_expireAtApplication s line
  have rest : (if runDue line s = true then settleLine line s else s).eq.active = s.eq.active
      ∧ (if runDue line s = true then settleLine line s else s).eq.latches = s.eq.latches
      ∧ (if runDue line s = true then settleLine line s else s).cc.active = s.cc.active
      ∧ (if runDue line s = true then settleLine line s else s).stamp = s.stamp := by
    split
    · cases line <;> exact ⟨rfl, rfl, rfl, rfl⟩
    · exact ⟨rfl, rfl, rfl, rfl⟩
  obtain ⟨active, latches, config, stamp⟩ := rest
  exact ⟨(congrArg Inputs.active same).trans active, (congrArg Inputs.latches same).trans latches,
    (congrArg Inputs.config same).trans config, (congrArg Inputs.stamp same).trans stamp⟩

theorem runDue_settledLine {line : LineId} {s : State} (settled : (s.eq.line line).run = none) : runDue line s = false := by
  simp only [runDue, settled]

theorem runDue_expireAtApplication_ne {s : State} {line other : LineId} (ne : other ≠ line) :
    runDue other (expireAtApplication s line) = runDue other s := by
  obtain ⟨-, -, config, stamp⟩ := expireAtApplication_rest s line
  have same : (expireAtApplication s line).eq.line other = s.eq.line other := by
    rw [line_expireAtApplication, if_neg fun h => ne h.1]
  simp only [runDue, same, config, stamp]

/-- In whatever order the runs are taken, a line of the list settles exactly where its run is due. -/
theorem foldl_expireAtApplication (l : List LineId) (s : State) :
    let t := l.foldl expireAtApplication s
    (∀ line, t.eq.line line = if line ∈ l ∧ runDue line s = true then settledLine (s.eq.line line) else s.eq.line line)
      ∧ t.eq.active = s.eq.active ∧ t.eq.latches = s.eq.latches ∧ t.cc.active = s.cc.active ∧ t.stamp = s.stamp := by
  induction l generalizing s with
  | nil => exact ⟨fun line => by simp, rfl, rfl, rfl, rfl⟩
  | cons first rest ih =>
      obtain ⟨lines, active, latches, config, stamp⟩ := ih (expireAtApplication s first)
      obtain ⟨active', latches', config', stamp'⟩ := expireAtApplication_rest s first
      refine ⟨fun line => ?_, active.trans active', latches.trans latches', config.trans config', stamp.trans stamp'⟩
      rw [List.foldl_cons, lines, line_expireAtApplication]
      by_cases same : line = first
      · subst same
        by_cases due : runDue line s = true
        · have gone : runDue line (expireAtApplication s line) = false :=
            runDue_settledLine (by rw [line_expireAtApplication, if_pos ⟨rfl, due⟩]; rfl)
          simp [gone, due]
        · have still : expireAtApplication s line = s := if_neg due
          simp [still, due]
      · rw [runDue_expireAtApplication_ne same]
        simp [same]

/-! ### The gate inputs that change (R10, R11, R13) -/

theorem reevaluateGate_inputs (s : State) (n : GateNo) :
    let t := reevaluateGate n s
    (∀ m : GateNo, t.eq.active[m] = if m = n then gateActiveNow s m else s.eq.active[m])
      ∧ (∀ (p : Port) (m : GateNo), t.eq.latches[p][m]
        = if m = n ∧ gateActiveNow s m ≠ s.eq.active[m] then ⟨true, false⟩ else s.eq.latches[p][m])
      ∧ t.eq.gates = s.eq.gates ∧ t.eq.tooth = s.eq.tooth ∧ t.eq.index = s.eq.index ∧ t.cc.active = s.cc.active := by
  by_cases still : gateActiveNow s n = s.eq.active[n]
  · have same : reevaluateGate n s = s := if_pos still
    rw [same]
    refine ⟨fun m => ?_, fun p m => ?_, rfl, rfl, rfl, rfl⟩
    · split
      · next e => exact e ▸ still.symm
      · rfl
    · rw [if_neg]
      rintro ⟨rfl, differs⟩
      exact differs still
  · have changes : (reevaluateGate n s).eq = { s.eq with
          active := vmod s.eq.active n fun _ => gateActiveNow s n
          latches := vall s.eq.latches fun l => vmod l n fun _ => ⟨true, false⟩ }
        ∧ (reevaluateGate n s).cc = s.cc := by
      rw [reevaluateGate, if_neg still, gateChanged]
      simp only
      split <;> exact ⟨rfl, rfl⟩
    obtain ⟨eq, cc⟩ := changes
    simp only [eq, cc, vmod_at, vall_at, and_self, and_true]
    refine ⟨fun m => ?_, fun p m => ?_⟩
    · simp only [eq_comm (a := m)]
      split
      · next e => rw [e]
      · rfl
    · by_cases same : n = m
      · subst same
        rw [if_pos rfl, if_pos ⟨rfl, still⟩]
      · rw [if_neg same, if_neg fun h => same h.1.symm]

/-- In whatever order the gates are taken, those of the list are up to date. -/
theorem foldl_reevaluateGate (l : List GateNo) (s : State) :
    let t := l.foldl (fun u n => reevaluateGate n u) s
    (∀ m : GateNo, t.eq.active[m] = if m ∈ l then gateActiveNow s m else s.eq.active[m])
      ∧ (∀ (p : Port) (m : GateNo), t.eq.latches[p][m]
        = if m ∈ l ∧ gateActiveNow s m ≠ s.eq.active[m] then ⟨true, false⟩ else s.eq.latches[p][m])
      ∧ t.eq.gates = s.eq.gates ∧ t.eq.tooth = s.eq.tooth ∧ t.eq.index = s.eq.index := by
  induction l generalizing s with
  | nil => exact ⟨fun m => by simp, fun p m => by simp, rfl, rfl, rfl⟩
  | cons first rest ih =>
      obtain ⟨active, latches, gates, tooth, index⟩ := ih (reevaluateGate first s)
      obtain ⟨active', latches', gates', tooth', index', config'⟩ := reevaluateGate_inputs s first
      have now (m : GateNo) : gateActiveNow (reevaluateGate first s) m = gateActiveNow s m := by
        simp only [gateActiveNow, gates', config']
      refine ⟨fun m => ?_, fun p m => ?_, gates.trans gates', tooth.trans tooth', index.trans index'⟩
      · rw [List.foldl_cons, active, active', now]
        by_cases same : m = first <;> simp [-Fin.getElem_fin, same]
      · rw [List.foldl_cons, latches, latches', active', now]
        by_cases same : m = first <;> simp [-Fin.getElem_fin, same]

/-! ### All of EQ's part (R3, R13) -/

/-- The lines whose width changed, with a run that the new width lets expire. -/
def expiring (old : RefConfig) (s : State) : List LineId :=
  allLines.filter fun l => s.cc.active.widthCode l != old.widthCode l && runDue l s

/-- The state after EQ's runs, before the gates. -/
def expired (old : RefConfig) (s : State) : State :=
  (freeOrder (expiring old s).length s.freeCount (expiring old s)).foldl expireAtApplication
    { s with freeCount := s.freeCount + (expiring old s).length }

/-- The gate inputs whose active state is not up to date. -/
def outdated (t : State) : List GateNo := [0, 1, 2, 3].filter fun n : GateNo => gateActiveNow t n != t.eq.active[n]

theorem requalify_eq (old : RefConfig) (s : State) :
    requalify old s = (freeOrder (outdated (expired old s)).length (expired old s).freeCount (outdated (expired old s))).foldl
      (fun u n => reevaluateGate n u)
      { expired old s with freeCount := (expired old s).freeCount + (outdated (expired old s)).length } := rfl

theorem mem_outdated (t : State) (n : GateNo) : n ∈ outdated t ↔ gateActiveNow t n ≠ t.eq.active[n] := by
  have all : n ∈ ([0, 1, 2, 3] : List GateNo) := by revert n; decide
  simp [-Fin.getElem_fin, outdated, all]

theorem mem_expiring (old : RefConfig) (s : State) (line : LineId) :
    line ∈ expiring old s ↔ s.cc.active.widthCode line ≠ old.widthCode line ∧ runDue line s = true := by
  simp [expiring, mem_allLines]

/-- R3, R13: which lines settle, and the gate inputs up to date. -/
theorem requalify_inputs (old : RefConfig) (s : State) :
    let t := requalify old s
    (∀ line, t.eq.line line = if s.cc.active.widthCode line ≠ old.widthCode line ∧ runDue line s = true then
        settledLine (s.eq.line line) else s.eq.line line)
      ∧ ∀ n : GateNo, t.eq.active[n] = (t.eq.gates[n].filtered == s.cc.active.gates[n].activeHigh)
        ∧ ∀ p : Port, t.eq.latches[p][n]
          = if t.eq.active[n] = s.eq.active[n] then s.eq.latches[p][n] else ⟨true, false⟩ := by
  obtain ⟨lines, active, latches, config, -⟩ := foldl_expireAtApplication
    (freeOrder (expiring old s).length s.freeCount (expiring old s))
    { s with freeCount := s.freeCount + (expiring old s).length }
  have settled (line : LineId) : (expired old s).eq.line line
      = if s.cc.active.widthCode line ≠ old.widthCode line ∧ runDue line s = true then settledLine (s.eq.line line)
        else s.eq.line line := by
    refine (lines line).trans (if_congr ?_ rfl rfl)
    rw [(freeOrder_perm _ _ _).mem_iff, mem_expiring]
    exact ⟨fun h => h.1, fun h => ⟨h, h.2⟩⟩
  obtain ⟨active', latches', gates', tooth', index'⟩ := foldl_reevaluateGate
    (freeOrder (outdated (expired old s)).length (expired old s).freeCount (outdated (expired old s)))
    { expired old s with freeCount := (expired old s).freeCount + (outdated (expired old s)).length }
  simp only [(freeOrder_perm _ _ _).mem_iff, mem_outdated, ← requalify_eq] at active' latches' gates' tooth' index'
  have upToDate (n : GateNo) : (requalify old s).eq.active[n] = gateActiveNow (expired old s) n := by
    rw [active']
    split
    · rfl
    · next same => exact (not_not.1 same).symm
  have before (n : GateNo) : (expired old s).eq.active[n] = s.eq.active[n] := congrArg (fun v : Vector Bool 4 => v[n]) active
  have latched (n : GateNo) (p : Port) : (expired old s).eq.latches[p][n] = s.eq.latches[p][n] :=
    congrArg (fun v : Vector (Vector Marked 4) 4 => v[p][n]) latches
  have now (n : GateNo) : gateActiveNow (expired old s) n
      = ((expired old s).eq.gates[n].filtered == s.cc.active.gates[n].activeHigh) :=
    congrArg (fun c : RefConfig => ((expired old s).eq.gates[n].filtered == c.gates[n].activeHigh)) config
  refine ⟨fun line => ?_, fun n => ⟨?_, fun p => ?_⟩⟩
  · rw [← settled]
    cases line with
    | tooth => exact tooth'
    | index => exact index'
    | gate n => exact congrArg (fun v : Vector FilterLine 4 => v[n]) gates'
  · rw [upToDate, now, gates']
  · rw [upToDate]
    split
    · next same =>
        have still : gateActiveNow (expired old s) n = (expired old s).eq.active[n] := same.trans (before n).symm
        rw [latches', if_neg fun h => h.1 still, latched]
    · next differs =>
        have outdated : gateActiveNow (expired old s) n ≠ (expired old s).eq.active[n] :=
          fun still => differs (still.trans (before n))
        rw [latches', if_pos ⟨outdated, outdated⟩]

/-- Where no run acts and every gate input is up to date, EQ leaves the state. -/
theorem requalify_of_quiet (old : RefConfig) {s : State} (runs : ∀ line, runDue line s = false)
    (gates : ∀ n, gateActiveNow s n = s.eq.active[n]) : requalify old s = s := by
  have noRun : expiring old s = [] := by simp [expiring, runs]
  have untouched : expired old s = s := by rw [expired, noRun]; rfl
  have noGate : outdated s = [] := by simp [-Fin.getElem_fin, outdated, gates]
  rw [requalify_eq, untouched, noGate]
  rfl

end Sys2Proof.Proofs
end

section
/-! PROOFS. The application of a record, continued: what each class of change does to PT, LS, AG and FS (R8, R18, R22, R23, R26,
R51, R58, R74, R179). -/

namespace Sys2Proof.Proofs

open Sys2Proof Sys2Proof.Machine Sys2Proof.Safety

/-! ### The parts of an application, and the last of them -/

/-- The class A effects, where the record has a class A change. -/
def classAPart (old new : RefConfig) (s : State) : State := if classAChanged old new then classAEffects s else s

/-- The depth in force re-evaluated, where a depth changed. -/
def depthPart (old new : RefConfig) (s : State) : State :=
  if old.acquireDepth ≠ new.acquireDepth ∨ old.lockedDepth ≠ new.lockedDepth then reevaluateDepth old s else s

/-- The counts judged, where the standstill limit changed. -/
def limitPart (old new : RefConfig) (s : State) : State :=
  if old.standstillLimit ≠ new.standstillLimit then judgeStandstillLimit s else s

theorem carryOutChange_eq (old new : RefConfig) (s : State) :
    carryOutChange old new s = requalify old (limitPart old new (depthPart old new (classAPart old new s))) := rfl

theorem inputsOf_parts (old new : RefConfig) (s : State) :
    inputsOf (limitPart old new (depthPart old new (classAPart old new s))) = inputsOf s := by
  have fallen (u : State) : inputsOf (setStandstill (.running 0) (fall .search u)) = inputsOf u := inputsOf_fall .search u
  have classA (u : State) : inputsOf (classAPart old new u) = inputsOf u := by
    unfold classAPart classAEffects classALock
    simp only
    split
    · split
      · rfl
      · exact fallen _
      · exact (inputsOf_departFrom _ _).trans (fallen _)
      · exact (inputsOf_departFrom _ _).trans (fallen _)
      · exact (inputsOf_departFrom _ _).trans (fallen _)
      · rfl
    · rfl
  have depth (u : State) : inputsOf (depthPart old new u) = inputsOf u := by
    unfold depthPart reevaluateDepth
    split_ifs <;> rfl
  have limit (u : State) : inputsOf (limitPart old new u) = inputsOf u := by
    unfold limitPart judgeStandstillLimit
    simp only
    split_ifs
    · exact inputsOf_standstillExpires _
    · rfl
    · rfl
  rw [limit, depth, classA]

/-- The claim's block after an application. -/
def appliedCc (new : RefConfig) (s : State) : ClaimController :=
  { s.cc with
    active := new
    pendingRecord := none
    staged := if s.cc.holder = none then s.cc.staged else some new
    claimMarks := Vector.ofFn fun p => s.cc.claimMarks[p] && s.cc.holder != some p }

/-- The CLAIM cause of the holder. -/
def holderTold (holder : Option Port) (er : Vector EventPort 4) : Vector EventPort 4 :=
  Vector.ofFn fun p => { er[p] with claimCause := er[p].claimCause || holder == some p }

/-- The claim's block and the holder's cause, beside what the change does. -/
theorem applyRecord_eq (new : RefConfig) (s : State) :
    applyRecord new s = { changed new s with cc := appliedCc new s, er := holderTold s.cc.holder (changed new s).er } := by
  have cc := applyRecord_cc new s
  have holder : (changed new s).cc.holder = s.cc.holder := by rw [changed_cc]; rfl
  rw [applyRecord_eq_tellHolder, tellHolder_eq_toldClaim, holder] at cc ⊢
  calc toldClaim (fun q => s.cc.holder == some q) (restaged (changed new s))
      = { changed new s with
          cc := (toldClaim (fun q => s.cc.holder == some q) (restaged (changed new s))).cc
          er := holderTold s.cc.holder (changed new s).er } := rfl
    _ = _ := by rw [cc]; rfl

/-! ### EQ's part (R3, R10, R13) -/

theorem runDue_recorded_iff (new : RefConfig) (s : State) (line : LineId) :
    runDue line (recorded new s) = true ↔ ∃ since, (s.eq.line line).run = some since
      ∧ filterWidth (new.widthCode line) ≤ (s.stamp - since).toNat := runDue_iff line (recorded new s)

/-- The lines and the gate inputs that EQ's part finds as the record found them. -/
theorem requalify_inputs_of_recorded {new : RefConfig} {s v : State} (same : inputsOf v = inputsOf (recorded new s)) :
    let t := requalify s.cc.active v
    (∀ line, t.eq.line line
        = if s.cc.active.widthCode line ≠ new.widthCode line ∧ ∃ since, (s.eq.line line).run = some since
            ∧ filterWidth (new.widthCode line) ≤ (s.stamp - since).toNat
          then settledLine (s.eq.line line) else s.eq.line line)
      ∧ ∀ n : GateNo, t.eq.active[n] = (t.eq.gates[n].filtered == new.gates[n].activeHigh)
        ∧ ∀ p : Port, t.eq.latches[p][n]
          = if t.eq.active[n] = s.eq.active[n] then s.eq.latches[p][n] else ⟨true, false⟩ := by
  obtain ⟨lines, gates⟩ := requalify_inputs s.cc.active v
  have config : v.cc.active = new := congrArg Inputs.config same
  have active : v.eq.active = s.eq.active := congrArg Inputs.active same
  have latches : v.eq.latches = s.eq.latches := congrArg Inputs.latches same
  rw [config, active, latches] at gates
  refine ⟨fun line => ?_, gates⟩
  rw [lines, line_of_inputsOf same, runDue_of_inputsOf same, config]
  exact if_congr (and_congr ne_comm (runDue_recorded_iff new s line)) rfl rfl

section Quiet

variable {new : RefConfig} {s : State}
  (runs : ∀ line since, (s.eq.line line).run = some since → (s.stamp - since).toNat < filterWidth (new.widthCode line))
  (gates : ∀ n : GateNo, s.eq.active[n] = (s.eq.gates[n].filtered == new.gates[n].activeHigh))

include runs gates

/-- Where no run acts and no gate changes, EQ has no part in the change. -/
theorem carryOutChange_of_quiet (old : RefConfig) : carryOutChange old new (recorded new s)
      = limitPart old new (depthPart old new (classAPart old new (recorded new s))) := by
  have same := inputsOf_parts old new (recorded new s)
  rw [carryOutChange_eq]
  refine requalify_of_quiet old (fun line => ?_) fun n => ?_
  · rw [runDue_of_inputsOf same, Bool.eq_false_iff, Ne, runDue_recorded_iff]
    rintro ⟨since, run, lasted⟩
    exact absurd (runs line since run) (Nat.not_lt.2 lasted)
  · rw [gateActiveNow_of_inputsOf same]
    exact (gates n).symm.trans (congrArg (fun v : Inputs => v.active[n]) same).symm

/-- With no class A change, the depth and the limit act alone; a record without any change moves neither. -/
theorem changed_of_not_classA (other : classAChanged s.cc.active new = false) :
    changed new s = limitPart s.cc.active new (depthPart s.cc.active new (recorded new s)) := by
  unfold changed
  split
  · next same => simp only [limitPart, depthPart, same, ne_eq, not_true_eq_false, or_self, if_false]
  · rw [carryOutChange_of_quiet runs gates, classAPart, if_neg (by rw [other]; exact Bool.false_ne_true)]

end Quiet

/-! ### Class A: the reference starts anew (R8, R26, R51, R74) -/

/-- EQ's and PT's class A effects. -/
def restartedMeasurement (s : State) : State :=
  { s with
    eq := { s.eq with cycleNoise := 0, window := none }
    pt := { s.pt with history := [], lastEdge := none, gap := .absent } }

theorem classAEffects_eq (s : State) : classAEffects s = classALock (restartedMeasurement s) := rfl

theorem classALock_stays {s : State} (h : s.ls.lock = .stopped ∨ s.ls.lock = .freerun) :
    classALock s = { s with
      ls := { s.ls with clean := 0, noisy := 0, indexMiss := 0, standstill := .absent }
      ag := if s.ls.lock = .freerun then { s.ag with tooth := 0, base := 0 } else s.ag } := by
  rcases h with stopped | freerun
  · simp only [classALock, stopped]
    rfl
  · simp only [classALock, freerun, if_true]
    rfl

/-- The hub in SEARCH with the timer started anew, before the teardown. -/
def searchedAnew (s : State) : State :=
  { s with
    eq := { s.eq with cycleNoise := 0, window := none }
    pt := { s.pt with history := [] }
    ag := invalidAngle s.ag
    ls := { s.ls with
      lock := .search
      settle := 0
      clean := 0
      noisy := 0
      indexMiss := 0
      synthInCycle := false
      standstill := .running 0
      lockMarks := if s.ls.lock = .search then s.ls.lockMarks else Vector.replicate 4 false }
    er := lockCaused (s.ls.lock != .search) s.er }

theorem setStandstill_fall_search (s : State) : setStandstill (.running 0) (fall .search s) = searchedAnew s := by
  rw [fall_eq, searchedAnew, bne_comm]
  simp only [eq_comm (a := LockState.search)]
  rfl

theorem classALock_searches {s : State} (stopped : s.ls.lock ≠ .stopped) (freerun : s.ls.lock ≠ .freerun) :
    classALock s = departFrom id s (searchedAnew s) := by
  cases lock : s.ls.lock with
  | stopped => exact absurd lock stopped
  | freerun => exact absurd lock freerun
  | search =>
      have outside : s.inFiring = false := by simp only [State.inFiring, LockSupervisor.inFiring, lock]
      rw [departFrom_of_outside id outside, ← setStandstill_fall_search]
      simp only [classALock, lock]
  | acquire | locked | holdover =>
      rw [← setStandstill_fall_search]
      simp only [classALock, lock]

theorem departFrom_id_frame (before s : State) : FiringFrame s (departFrom id before s) := by
  unfold departFrom
  split
  · exact teardownParts_frame s
  · exact .refl s

/-- An empty history has nothing to trim. -/
theorem depthPart_of_empty (old new : RefConfig) {s : State} (empty : s.pt.history = []) : depthPart old new s = s := by
  have trimmed (d : Nat) : trimHistory d s = s := by
    rw [trimHistory, empty, newest, List.drop_nil, ← empty]
  unfold depthPart reevaluateDepth
  split_ifs
  · exact trimmed _
  · rfl
  · rfl

/-- No count exceeds the new limit. -/
theorem limitPart_of_calm (old new : RefConfig) {s : State} (gap : s.pt.gap = .absent)
    (timer : s.ls.standstill.due s.cc.active.standstillLimit = false) : limitPart old new s = s := by
  have judged : { s with pt := { s.pt with gap := s.pt.gap.judge s.cc.active.standstillLimit } } = s := by
    rw [gap, Timer.judge, ← gap]
  unfold limitPart judgeStandstillLimit
  simp only [judged, timer, Bool.false_eq_true, if_false, ite_self]

theorem classAEffects_calm (s : State) :
    (classAEffects s).pt.history = [] ∧ (classAEffects s).pt.gap = .absent
      ∧ ∀ limit, (classAEffects s).ls.standstill.due limit = false := by
  rw [classAEffects_eq]
  by_cases stays : s.ls.lock = .stopped ∨ s.ls.lock = .freerun
  · rw [classALock_stays (s := restartedMeasurement s) stays]
    exact ⟨rfl, rfl, fun _ => rfl⟩
  · obtain ⟨stopped, freerun⟩ := not_or.1 stays
    rw [classALock_searches (s := restartedMeasurement s) stopped freerun]
    have frame := departFrom_id_frame (restartedMeasurement s) (searchedAnew (restartedMeasurement s))
    rw [frame.pt, frame.ls]
    exact ⟨rfl, rfl, fun limit => by simp [searchedAnew, Timer.due]⟩

/-- The class A effects leave the other parts nothing to do. -/
theorem changed_of_classA {new : RefConfig} {s : State}
    (runs : ∀ line since, (s.eq.line line).run = some since → (s.stamp - since).toNat < filterWidth (new.widthCode line))
    (gates : ∀ n : GateNo, s.eq.active[n] = (s.eq.gates[n].filtered == new.gates[n].activeHigh))
    (classA : classAChanged s.cc.active new = true) : changed new s = classAEffects (recorded new s) := by
  have differs : new ≠ s.cc.active := by
    rintro rfl
    simp [classAChanged] at classA
  obtain ⟨empty, gap, timer⟩ := classAEffects_calm (recorded new s)
  rw [changed, if_neg differs, carryOutChange_of_quiet runs gates, classAPart, if_pos classA, depthPart_of_empty _ _ empty,
    limitPart_of_calm _ _ gap (timer _)]

/-! ### Class B and the standstill limit (R18, R22, R23, R58) -/

/-- A count that runs beyond the new limit. -/
def Overdue (old new : RefConfig) (c : Timer) : Prop :=
  old.standstillLimit ≠ new.standstillLimit ∧ ∃ n, c = .running n ∧ new.standstillLimit < n

/-- PT as the depth in force and the gap count then stand. -/
def remeasured (old new : RefConfig) (lock : LockState) (gap : Timer) (pt : PeriodTracker) : PeriodTracker :=
  { pt with
    gap := gap
    history :=
      if depthFor new lock < depthFor old lock then pt.history.drop (pt.history.length - depthFor new lock)
      else pt.history }

theorem depthPart_eq {old : RefConfig} {s : State} :
    depthPart old s.cc.active s = { s with pt := remeasured old s.cc.active s.ls.lock s.pt.gap s.pt } := by
  have same (a : old.acquireDepth = s.cc.active.acquireDepth) (l : old.lockedDepth = s.cc.active.lockedDepth) :
      ¬depthFor s.cc.active s.ls.lock < depthFor old s.ls.lock := by
    cases s.ls.lock <;> simp only [depthFor, a, l, lt_irrefl, not_false_eq_true]
  unfold depthPart reevaluateDepth remeasured
  split_ifs with moved lower lower
  · rfl
  · rfl
  · obtain ⟨a, l⟩ := not_or.1 moved
    exact absurd lower (same (not_not.1 a) (not_not.1 l))
  · rfl

theorem judge_eq (limit : Nat) (c : Timer) : c.judge limit = if c.due limit = true then .expired else c := by
  cases c <;> simp [Timer.judge, Timer.due]

theorem limitPart_eq {old new : RefConfig} {s : State} {gap : Timer} (active : s.cc.active = new)
    (judged : gap = s.pt.gap ∧ ¬Overdue old new s.pt.gap ∨ gap = .expired ∧ Overdue old new s.pt.gap) :
    (¬Overdue old new s.ls.standstill → limitPart old new s = { s with pt := { s.pt with gap := gap } })
      ∧ (Overdue old new s.ls.standstill →
          limitPart old new s = standstillExpires id { s with pt := { s.pt with gap := gap } }) := by
  subst active
  unfold limitPart
  split
  · next moved =>
      have overdue_iff (c : Timer) : Overdue old s.cc.active c ↔ c.due s.cc.active.standstillLimit = true := by
        rw [timer_due_iff, Overdue]
        exact and_iff_right moved
      have gap_eq : gap = s.pt.gap.judge s.cc.active.standstillLimit := by
        rw [judge_eq]
        rcases judged with ⟨rfl, within⟩ | ⟨rfl, beyond⟩
        · rw [if_neg (mt (overdue_iff _).2 within)]
        · rw [if_pos ((overdue_iff _).1 beyond)]
      rw [overdue_iff, gap_eq]
      exact ⟨fun within => if_neg within, fun beyond => if_pos beyond⟩
  · next still =>
      have never (c : Timer) : ¬Overdue old s.cc.active c := fun h => still h.1
      obtain rfl : gap = s.pt.gap := (judged.resolve_right fun h => never _ h.2).1
      exact ⟨fun _ => rfl, fun h => absurd h (never _)⟩

/-- The expiry that the new limit brings takes LOCKED and HOLDOVER without a deadline, SEARCH and ACQUIRE to STOPPED. -/
theorem standstillExpires_id_stops {s : State} (h : s.ls.lock = .search ∨ s.ls.lock = .acquire
      ∨ (s.ls.lock = .locked ∨ s.ls.lock = .holdover) ∧ s.ag.deadline = none) :
    (standstillExpires id s).ls.lock = .stopped ∧ (standstillExpires id s).ls.standstill = .expired
      ∧ (standstillExpires id s).ag = invalidAngle s.ag ∧ (standstillExpires id s).pt = { s.pt with history := [] } := by
  rcases or_assoc.2 h with low | ⟨high, missing⟩
  · rw [standstillExpires_falls id low]
    exact ⟨rfl, rfl, rfl, rfl⟩
  · have other : (setStandstill .expired s).ls.lock ≠ .search := by rcases high with e | e <;> simp [e]
    have frame := departFrom_id_frame (setStandstill .expired s) (searched (setStandstill .expired s))
    rw [standstillExpires_searches id high missing, enterSearch_eq id other, goOnToStopped_eq, if_pos]
    · refine ⟨rfl, ?_, ?_, ?_⟩
      · exact (congrArg LockSupervisor.standstill frame.ls).trans rfl
      · exact (congrArg invalidAngle frame.ag).trans rfl
      · exact (congrArg (fun pt : PeriodTracker => { pt with history := [] }) frame.pt).trans rfl
    · rw [frame.ls]
      exact ⟨.inl rfl, rfl⟩

/-! ### The statement's parts -/

/-- Where the reference is at rest or runs free, its judgement starts anew (R51, R74). -/
theorem classA_stays {new : RefConfig} {s : State} (lock : s.ls.lock = .stopped ∨ s.ls.lock = .freerun) :
    { classAEffects (recorded new s) with
      cc := appliedCc new s, er := holderTold s.cc.holder (classAEffects (recorded new s)).er } =
    { restartedMeasurement s with
      cc := appliedCc new s
      er := holderTold s.cc.holder (lockCaused (s.ls.lock == .acquire || s.ls.lock == .locked || s.ls.lock == .holdover) s.er)
      ls := { s.ls with clean := 0, noisy := 0, indexMiss := 0, standstill := .absent }
      ag := if s.ls.lock = .freerun then { s.ag with tooth := 0, base := 0 } else s.ag } := by
  have untold : (s.ls.lock == .acquire || s.ls.lock == .locked || s.ls.lock == .holdover) = false := by
    rcases lock with e | e <;> rw [e] <;> rfl
  rw [classAEffects_eq, classALock_stays (s := restartedMeasurement (recorded new s)) lock, untold, lockCaused_false]
  rfl

/-- Outside the firing set the reference searches anew (R74). -/
theorem classA_searches_outside {new : RefConfig} {s : State} (outside : s.inFiring = false)
    (lock : s.ls.lock = .search ∨ s.ls.lock = .acquire ∨ s.ls.lock = .locked) :
    { classAEffects (recorded new s) with
      cc := appliedCc new s, er := holderTold s.cc.holder (classAEffects (recorded new s)).er } =
    { restartedMeasurement s with
      cc := appliedCc new s
      er := holderTold s.cc.holder (lockCaused (s.ls.lock == .acquire || s.ls.lock == .locked || s.ls.lock == .holdover) s.er)
      ls := { s.ls with
        lock := .search
        settle := 0
        clean := 0
        noisy := 0
        indexMiss := 0
        synthInCycle := false
        standstill := .running 0
        lockMarks := if s.ls.lock = .search then s.ls.lockMarks else Vector.replicate 4 false }
      ag := invalidAngle s.ag } := by
  have told : (s.ls.lock == .acquire || s.ls.lock == .locked || s.ls.lock == .holdover) = (s.ls.lock != .search) := by
    rcases lock with e | e | e <;> rw [e] <;> rfl
  have stopped : s.ls.lock ≠ .stopped := by rcases lock with e | e | e <;> rw [e] <;> decide
  have freerun : s.ls.lock ≠ .freerun := by rcases lock with e | e | e <;> rw [e] <;> decide
  have outsideStill : (restartedMeasurement (recorded new s)).inFiring = false := outside
  rw [classAEffects_eq, classALock_searches (s := restartedMeasurement (recorded new s)) stopped freerun,
    departFrom_of_outside id outsideStill, told]
  rfl

theorem tornDown_frame (s : State) : FiringFrame s (tornDown s) := teardownParts_eq s ▸ teardownParts_frame s

/-- In the firing set, FREERUN apart, the search begins with the loss teardown (R74, R125). -/
theorem classAEffects_leaves_firing {s : State} (inside : s.inFiring = true) (freerun : s.ls.lock ≠ .freerun) :
    classAEffects s = tornDown (searchedAnew (restartedMeasurement s)) := by
  have stopped : s.ls.lock ≠ .stopped := by
    intro e
    simp [State.inFiring, LockSupervisor.inFiring, e] at inside
  have insideStill : (restartedMeasurement s).inFiring = true := inside
  rw [classAEffects_eq, classALock_searches (s := restartedMeasurement s) stopped freerun,
    departFrom_of_inside id insideStill, teardown, teardownParts_eq]
  rfl

theorem lostEntry_leaves (e : Entry) : (lostEntry e).windowOpen = false ∧ (lostEntry e).state ≠ .arming := by
  refine ⟨rfl, ?_⟩
  unfold lostEntry
  split_ifs with spent arming
  · exact fun e => nomatch e
  · exact fun e => nomatch e
  · exact arming

theorem tornDown_searchedAnew_lockCause {s : State} (other : s.ls.lock ≠ .search) (p : Port) :
    (tornDown (searchedAnew s)).er[p].lockCause = true := by
  obtain ⟨-, -, -, -, lockCause, -⟩ := (tornDown_frame (searchedAnew s)).ports p
  have told : (s.ls.lock != .search) = true := bne_iff_ne.2 other
  rw [lockCause, searchedAnew, told]
  simp only [lockCaused_at, Bool.or_true]

/-- A record that changes nothing in class A, where no run acts and no gate changes: PT is measured anew, and the timer is
judged. -/
theorem changed_measured {new : RefConfig} {s : State} {measured : PeriodTracker}
    (runs : ∀ line since, (s.eq.line line).run = some since → (s.stamp - since).toNat < filterWidth (new.widthCode line))
    (gates : ∀ n : GateNo, s.eq.active[n] = (s.eq.gates[n].filtered == new.gates[n].activeHigh))
    (other : classAChanged s.cc.active new = false)
    (gap : measured.gap = s.pt.gap ∧ ¬Overdue s.cc.active new s.pt.gap
      ∨ measured.gap = .expired ∧ Overdue s.cc.active new s.pt.gap)
    (history : measured = remeasured s.cc.active new s.ls.lock measured.gap s.pt) :
    (¬Overdue s.cc.active new s.ls.standstill → changed new s = { recorded new s with pt := measured })
      ∧ (Overdue s.cc.active new s.ls.standstill →
          changed new s = standstillExpires id { recorded new s with pt := measured }) := by
  have depth : depthPart s.cc.active new (recorded new s)
      = { recorded new s with pt := remeasured s.cc.active new s.ls.lock s.pt.gap s.pt } := depthPart_eq (s := recorded new s)
  have limit := limitPart_eq (old := s.cc.active) (new := new) (gap := measured.gap)
    (s := { recorded new s with pt := remeasured s.cc.active new s.ls.lock s.pt.gap s.pt }) rfl gap
  have whole : { remeasured s.cc.active new s.ls.lock s.pt.gap s.pt with gap := measured.gap } = measured := history.symm
  rw [whole] at limit
  rw [changed_of_not_classA runs gates other, depth]
  exact limit

/-- Settles O51: the claim's block and the holder's cause; EQ's part in any order; and beside it the classes of change. -/
theorem appliedRecordHasItsClassEffects : Obligations.AppliedRecordHasItsClassEffects := by
  unfold Obligations.AppliedRecordHasItsClassEffects
  refine fun r s => ⟨applyRecord r s, appliedCc r s, rfl, applyRecord_cc r s, rfl, fun p held => applyRecord_claimCause held,
    fun differs => ?_, fun runs gates causes anew told made => ?_⟩
  · have eq : (applyRecord r s).eq = (changed r s).eq := by rw [applyRecord_eq]
    have inputs := requalify_inputs_of_recorded (inputsOf_parts s.cc.active r (recorded r s))
    rw [← carryOutChange_eq, ← show changed r s = _ from if_neg differs] at inputs
    obtain ⟨lines, gates⟩ := inputs
    rw [← eq] at lines gates
    exact ⟨fun line =>
      ⟨fun acts => (lines line).trans (if_pos acts), fun idle => (lines line).trans (if_neg idle)⟩, gates⟩
  obtain rfl : causes = fun told => holderTold s.cc.holder (lockCaused told s.er) := by
    refine funext fun b => (told b).trans (vector_ext_at fun p => ?_)
    simp only [holderTold, lockCaused, ofFn_at]
  subst made
  rw [applyRecord_eq]
  refine ⟨fun classA => ?_, fun other overdue measured overdueIff gap history => ?_⟩
  · rw [changed_of_classA runs gates classA]
    refine ⟨classA_stays, classA_searches_outside, fun inside freerun => ?_⟩
    have search : s.ls.lock ≠ .search := by
      intro e
      simp [State.inFiring, LockSupervisor.inFiring, e] at inside
    rw [classAEffects_leaves_firing (s := recorded r s) inside freerun]
    refine ⟨rfl, rfl, rfl, rfl, rfl, rfl, rfl, rfl, rfl, rfl, rfl, rfl, fun p => ?_, fun i => ?_⟩
    · have set := tornDown_searchedAnew_lockCause (s := restartedMeasurement (recorded r s)) search p
      simpa only [holderTold, ofFn_at] using set
    · have lost := lostEntry_leaves (searchedAnew (restartedMeasurement (recorded r s))).ctc.entries[i]
      rwa [← tornDown_entry] at lost
  · obtain rfl : overdue = Overdue s.cc.active r := funext fun c => propext (overdueIff c)
    obtain ⟨within, beyond⟩ := changed_measured runs gates other gap history
    simp only [lockCaused_false]
    refine ⟨fun timer => ?_, fun timer => ⟨fun stays => ?_, fun stops => ?_⟩⟩
    · rw [within timer]
      rfl
    · rw [beyond timer, standstillExpires_stays id (s := { recorded r s with pt := measured }) stays]
      rfl
    · rw [beyond timer]
      exact standstillExpires_id_stops (s := { recorded r s with pt := measured }) stops

end Sys2Proof.Proofs
end

section
/-! PROOFS. The frame of a port: the fall of the select line, the edges of the clock, and a rise that completes no read
(R185, R186, R188, R190; log entries 4 and 25). -/

namespace Sys2Proof.Proofs

open Sys2Proof Sys2Proof.Machine Sys2Proof.Safety

/-! ### One Port Interface changed -/

theorem modPort_of_eq {p : Port} {s : State} {f : PortInterface → PortInterface} {q : PortInterface} (h : f s.pi[p] = q) :
    s.modPort p f = { s with pi := s.pi.set p.val q } := by
  rw [← h]
  rfl

/-! ### SELECT_FALL and the clock with RESET_n high (R185, R186) -/

section Frame

variable {p : Port} {s : State} (high : s.resetLow = false)

include high

theorem exec_selectFall_of_high : exec (.selectFall p) s = .next (s.modPort p PortInterface.fall) := by
  simp only [exec, execSelectFall, high, Bool.false_eq_true, if_false]

theorem exec_clockRise (low : s.pi[p].sck = false) (sdi : Bool) :
    exec (.serialClockEdge p true sdi) s = .next (risingEdge p sdi s) := by
  simp only [exec, execSerialClockEdge, clockEdge, low, high, Bool.false_eq_true, if_false, if_true]

theorem exec_clockFall (up : s.pi[p].sck = true) (sdi : Bool) :
    exec (.serialClockEdge p false sdi) s = .next (s.modPort p PortInterface.fallingEdge) := by
  simp only [exec, execSerialClockEdge, clockEdge, up, high, Bool.false_eq_true, Bool.true_eq_false, if_false]

end Frame

section Edges

variable {p : Port} {s : State} (sdi : Bool)

theorem risingEdge_of_incomplete (receiving : s.pi[p].framing = .receiving)
    (incomplete : requestComplete (s.pi[p].bits ++ [sdi]) = false) :
    risingEdge p sdi s = s.modPort p (PortInterface.receiveBit sdi) := by
  simp only [risingEdge, receiving, completedRequest, incomplete, Bool.false_eq_true, if_false, Option.bind_none]

theorem risingEdge_of_responding (responding : s.pi[p].framing = .responding) :
    risingEdge p sdi s = s.modPort p PortInterface.shiftBit := by
  simp only [risingEdge, responding]

/-- Outside a request and its response a rising edge moves the clock level alone. -/
theorem risingEdge_of_still
    (still : s.pi[p].framing = .trailing ∨ s.pi[p].framing = .discarding ∨ s.pi[p].framing = .idle) :
    risingEdge p sdi s = s.modPort p fun q => { q with sck := true } := by
  rcases still with framing | framing | framing <;> simp only [risingEdge, framing]

end Edges

section Falls

variable {q : PortInterface}

theorem fall_of_idle (idle : q.framing = .idle) :
    q.fall = { q with framing := .receiving, bits := [], shifted := 0, sdo := some true } := if_pos idle

theorem fallingEdge_of_responding (responding : q.framing = .responding) :
    q.fallingEdge = { q with sck := false, sdo := some (responseBit q.response q.shifted) } := by
  simp only [PortInterface.fallingEdge, responding]

theorem fallingEdge_of_ones (ones : q.framing = .receiving ∨ q.framing = .trailing ∨ q.framing = .discarding) :
    q.fallingEdge = { q with sck := false, sdo := some true } := by
  rcases ones with framing | framing | framing <;> simp only [PortInterface.fallingEdge, framing]

theorem fallingEdge_of_idle (idle : q.framing = .idle) : q.fallingEdge = { q with sck := false } := by
  simp only [PortInterface.fallingEdge, idle]

end Falls

/-- Settles O34: each edge by the framing state that it finds. -/
theorem selectFallAndClockEdgesMoveTheFrame : Obligations.SelectFallAndClockEdgesMoveTheFrame := by
  unfold Obligations.SelectFallAndClockEdgesMoveTheFrame
  refine fun p sdi s high => ⟨fun idle => ?_, fun low receiving incomplete => ?_, fun low responding => ?_,
    fun low still => ?_, fun up responding => ?_, fun up ones => ?_, fun up idle => ?_⟩
  · rw [exec_selectFall_of_high high, modPort_of_eq (fall_of_idle idle)]
  · rw [exec_clockRise high low, risingEdge_of_incomplete sdi receiving incomplete]
    rfl
  · rw [exec_clockRise high low, risingEdge_of_responding sdi responding]
    rfl
  · rw [exec_clockRise high low, risingEdge_of_still sdi still]
    rfl
  · rw [exec_clockFall high up, modPort_of_eq (fallingEdge_of_responding responding)]
    rfl
  · rw [exec_clockFall high up, modPort_of_eq (fallingEdge_of_ones ones)]
  · rw [exec_clockFall high up, modPort_of_eq (fallingEdge_of_idle idle)]

/-! ### The marks of p removed, and nothing else (R190) -/

section Unmarked

variable (p : Port) (s : State)

/-- What the removal of marks leaves of one port's part of delivery, it leaves of every port's. -/
theorem removeMarks_er_read {α : Type} (read : EventPort → α) (kept : ∀ e : EventPort, read e.unmark = read e) (q : Port) :
    read (removeMarks p s).er[q] = read s.er[q] := by
  simp only [removeMarks, vmod_at]
  split
  · exact kept _
  · rfl

theorem removeMarks_latch_value (q : Port) (n : GateNo) :
    (removeMarks p s).eq.latches[q][n].value = s.eq.latches[q][n].value := by
  simp only [removeMarks, vmod_at]
  split
  · rw [vall_at]
  · rfl

theorem removeMarks_stepSeen_value (q : Port) : (removeMarks p s).pt.stepSeen[q].value = s.pt.stepSeen[q].value := by
  simp only [removeMarks, vmod_at]
  split <;> rfl

/-- R161: the fresh bits stay, and with them every cause. -/
theorem unmark_pendingCauses (e : EventPort) (input : Bool) : e.unmark.pendingCauses input = e.pendingCauses input := by
  simp only [EventPort.pendingCauses, EventPort.unmark, vall_getElem]
  rfl

theorem removeMarks_causes (q : Port) : (removeMarks p s).causes q = s.causes q := by
  have input : (removeMarks p s).inputCause q = s.inputCause q := by
    simp only [State.inputCause, removeMarks, vmod_at]
    split
    · simp only [vall_getElem]
    · rfl
  rw [State.causes, input]
  exact removeMarks_er_read p s (fun e => e.pendingCauses (s.inputCause q)) (fun e => unmark_pendingCauses e _) q

theorem marked_removeMarks_of_ne {q : Port} (other : q ≠ p) : marked (removeMarks p s) q = marked s q := by
  simp only [marked, removeMarks, vmod_ne _ _ _ _ (Ne.symm other)]

/-- Where p has no mark there is none to remove. -/
theorem removeMarks_of_unmarked (unmarked : marked s p = false) : removeMarks p s = s := by
  obtain ⟨latches, stepSeen, lockMark, claimMark, popMark, lostMark, latest⟩ := (marked_eq_false_iff s p).1 unmarked
  have latches' : (vall s.eq.latches[p] fun m => { m with mark := false }) = s.eq.latches[p] :=
    vector_ext_at fun n => by rw [vall_at, ← latches n]
  have registers : (vall s.er[p].latest fun r => { r with mark := false }) = s.er[p].latest :=
    vector_ext_at fun n => by rw [vall_at, ← latest n]
  have delivery : s.er[p].unmark = s.er[p] := by
    rw [EventPort.unmark, registers]
    exact congrArg₂ (fun pop lost => { s.er[p] with popMark := pop, lostMark := lost }) popMark.symm lostMark.symm
  rw [removeMarks, vmod_id s.eq.latches p _ latches', vmod_id s.pt.stepSeen p _ (by rw [← stepSeen]),
    vmod_id s.ls.lockMarks p _ lockMark.symm, vmod_id s.er p _ delivery, vmod_id s.cc.claimMarks p _ claimMark.symm]

end Unmarked

/-! ### SELECT_RISE outside TRAILING (R186, R188) -/

theorem exec_selectRise_of_idle {p : Port} {s : State} (idle : s.pi[p].framing = .idle) :
    exec (.selectRise p) s = .next s := by
  simp only [exec, execSelectRise, idle, if_true]

theorem exec_selectRise_of_unread {p : Port} {s : State} (busy : s.pi[p].framing ≠ .idle)
    (unread : s.pi[p].framing ≠ .trailing) :
    exec (.selectRise p) s = .next ((removeMarks p s).modPort p PortInterface.rise) := by
  simp only [exec, execSelectRise, selectRises, if_neg busy, if_neg unread]

/-- R188: the rise within a request is a frame error. -/
theorem rise_of_unread {q : PortInterface}
    (unread : q.framing = .receiving ∨ q.framing = .responding ∨ q.framing = .discarding) :
    q.rise =
      if q.framing = .receiving then
        { q with framing := .idle, bits := [], frameErrors := min (q.frameErrors + 1) 255, sdo := none }
      else { q with framing := .idle, sdo := none } := by
  rcases unread with framing | framing | framing
  · rw [if_pos framing]
    simp only [PortInterface.rise, framing]
    rfl
  · simp only [PortInterface.rise, framing, reduceCtorEq, if_false]
  · simp only [PortInterface.rise, framing, reduceCtorEq, if_false]

/-- Settles O32: at a port in a frame the marks of p are removed, and its Port Interface rises. -/
theorem riseOutsideTrailingIsNoReadCompletion : Obligations.RiseOutsideTrailingIsNoReadCompletion := by
  unfold Obligations.RiseOutsideTrailingIsNoReadCompletion
  refine fun p s => ⟨exec_selectRise_of_idle, fun unread => ?_⟩
  have busy : s.pi[p].framing ≠ .idle := by
    rcases unread with framing | framing | framing <;> rw [framing] <;> decide
  have noRead : s.pi[p].framing ≠ .trailing := by
    rcases unread with framing | framing | framing <;> rw [framing] <;> decide
  refine ⟨_, exec_selectRise_of_unread busy noRead, ?_, ?_, fun q other => ?_, removeMarks_latch_value p s,
    fun q => ⟨removeMarks_stepSeen_value p s q, ?_, ?_, removeMarks_causes p s q, fun n => ⟨?_, ?_, ?_⟩⟩,
    fun unmarked => ?_, rfl, rfl, rfl, rfl, rfl, rfl, rfl, rfl, rfl, rfl⟩
  · exact congrArg (s.pi.set p.val ·) (rise_of_unread unread)
  · rw [marked_modPort, marked_removeMarks]
  · rw [marked_modPort, marked_removeMarks_of_ne p s other]
  · exact removeMarks_er_read p s (·.queue) (fun _ => rfl) q
  · exact removeMarks_er_read p s (·.lost) (fun _ => rfl) q
  · exact removeMarks_er_read p s (·.latest[n].record) (fun e => by simp only [EventPort.unmark, vall_at]) q
  · exact removeMarks_er_read p s (·.latest[n].fresh) (fun e => by simp only [EventPort.unmark, vall_at]) q
  · exact removeMarks_er_read p s (·.latest[n].overwritten) (fun e => by simp only [EventPort.unmark, vall_at]) q
  · rw [removeMarks_of_unmarked p s unmarked]
    rfl

end Sys2Proof.Proofs
end

section
/-! PROOFS. The requests that only read: NOP, READ_ATTN, READ_ENTRY, READ_TRACK, READ_SLOT and an unknown code, with the
layouts of R197 to R199 (R88, R146, R153, R164, R189, R192; log entry 13). -/

namespace Sys2Proof.Proofs

open Sys2Proof Sys2Proof.Machine Sys2Proof.Safety

/-! ### The attention summary (R164) -/

theorem summaryOf_eq_zero_iff (c : CauseSet) : summaryOf c = 0 ↔ c = 0 := by
  unfold summaryOf
  cases found : (List.range 9).find? fun i => c.getLsbD i with
  | none =>
      have clear := List.find?_eq_none.1 found
      refine iff_of_true rfl (BitVec.eq_of_getLsbD_eq fun i small => ?_)
      exact (Bool.eq_false_iff.2 (clear i (List.mem_range.2 small))).trans BitVec.getLsbD_zero.symm
  | some i =>
      have set : c.getLsbD i = true := List.find?_some found
      refine iff_of_false (Nat.succ_ne_zero i) ?_
      rintro rfl
      exact Bool.false_ne_true (BitVec.getLsbD_zero.symm.trans set)

/-- R164: the summary is one more than the number of the first cause in priority order. -/
theorem first_of_summaryOf {c : CauseSet} {n : Nat} (h : summaryOf c = n + 1) :
    c.getLsbD n = true ∧ ∀ d, d < n → c.getLsbD d = false := by
  unfold summaryOf at h
  split at h
  · cases h
  · next i found =>
      obtain rfl : i = n := Nat.succ.inj h
      obtain ⟨set, -, before⟩ := List.find?_range_eq_some.1 found
      exact ⟨set, fun d lower => by simpa using before d lower⟩

theorem actNop_eq (p : Port) (s : State) :
    actNop p s = (s, ⟨.ok, [octet (summaryOf (s.effectiveCauses p)), octet s.pi[p].frameErrors]⟩) := rfl

theorem causeSet_wire_eq_octets2 (c : CauseSet) : CauseSet.wire c = octets2 c.toNat := by
  rw [CauseSet.wire, bytesOf16_eq_octets2, BitVec.toNat_setWidth_of_le (by omega)]

theorem actReadAttn_eq (p : Port) (s : State) :
    actReadAttn p s =
      (s, ⟨.ok, [octet (summaryOf (s.effectiveCauses p))] ++ octets2 (s.causes p).toNat
        ++ octets2 s.er[p].attnMask.toNat⟩) := by
  simp only [actReadAttn, causeSet_wire_eq_octets2, byteOf_eq_octet]

/-! ### READ_ENTRY (R88, R198) -/

theorem action_code_eq (a : Action) :
    a.code = match a with | .note => 0 | .set => 1 | .clear => 2 | .pulse => 3 | .window => 4 := by
  cases a <;> rfl

theorem gate_code_eq (g : GateCond) :
    g.code = match g with | .always => 0 | .active n => octet (16 + n.val) | .inactive n => octet (32 + n.val) := by
  cases g <;> rfl

theorem entryState_code_eq (t : EntryState) :
    t.code = match t with | .free => 0 | .held => 1 | .arming => 2 | .live => 3 := by
  cases t <;> rfl

/-- The layout of R198, with the runtime fields behind the image. -/
theorem entry_wire_eq (e : Entry) :
    e.wire =
      [(match e.image.action with | .note => 0 | .set => 1 | .clear => 2 | .pulse => 3 | .window => 4 : Byte)]
        ++ octets2 e.image.start ++ angleOctets e.image.stop ++ [octetOr e.image.track]
        ++ octets2 (e.image.width.getD 0)
        ++ [e.image.tag,
          match e.image.gate with | .always => 0 | .active n => octet (16 + n.val) | .inactive n => octet (32 + n.val),
          octet (bitsValue [e.image.flags.quiet, e.image.flags.reportGated, e.image.flags.pause]),
          octet e.image.count,
          match e.state with | .free => 0 | .held => 1 | .arming => 2 | .live => 3,
          octetOr e.owner, octet (bitsValue [e.windowOpen, e.spent, e.lastFired.isSome])]
        ++ octets2 ((e.lastFired.map BitVec.toNat).getD 0) := by
  have cycle : (e.lastFired.getD 0).toNat = (e.lastFired.map BitVec.toNat).getD 0 := by
    cases e.lastFired <;> rfl
  simp only [Entry.wire, EntryImage.wire, EntryFlags.code, action_code_eq, gate_code_eq, entryState_code_eq,
    flagByte_eq_octet, byteOf_eq_octet, optByte_eq_octetOr, be16_eq_octets2, bytesOf16_eq_octets2,
    angleBytes_eq_angleOctets, cycle, List.append_assoc, List.cons_append, List.nil_append]

theorem actReadEntry_of_entry (i : EntryNo) (s : State) :
    actReadEntry (octet i.val) s = (s, ⟨.ok, s.ctc.entries[i].wire⟩) := by
  simp only [actReadEntry, entryOf_octet]

theorem actReadEntry_of_range {x : Byte} (s : State) (high : 64 ≤ x.toNat) :
    actReadEntry x s = (s, Reply.bare .range) := by
  simp only [actReadEntry, entryOf_range high]

/-! ### READ_TRACK (R146, R197) -/

/-- Log entry 13: a pulse at its very end shows 1 µs. -/
theorem pulseMicros_eq (k : Track) :
    k.pulseMicros = match k.pulse with | none => 0 | some n => max 1 ((n + 3) / 4) := rfl

theorem track_wire_eq (k : Track) :
    k.wire =
      [octetOr k.owner,
        octet (bitsValue [k.latch, k.inverted, k.safeActive, k.keepOnLoss, k.logical, k.line, k.pulse.isSome]),
        octet k.windowCount]
        ++ octets2 (match k.pulse with | none => 0 | some n => max 1 ((n + 3) / 4)) := by
  rw [← pulseMicros_eq]
  simp only [Track.wire, optByte_eq_octetOr, flagByte_eq_octet, byteOf_eq_octet, be16_eq_octets2]

theorem actReadTrack_of_track (k : TrackNo) (s : State) :
    actReadTrack (octet k.val) s = (s, ⟨.ok, s.td[k].wire⟩) := onTrackNo_octet k s _

/-! ### READ_SLOT (R153, R199) -/

theorem flagByte_bit (b : Bool) : flagByte [b] = octet b.toNat := by
  cases b <;> rfl

theorem slot_wire_eq (k : Slot) :
    k.wire =
      [octet k.enabled.toNat, k.tag, k.mask, octet k.kinds.toNat, octet k.own.toNat, octet k.latest.toNat] := by
  have kinds : k.kinds.setWidth 8 = octet k.kinds.toNat := byte_eq_octet (BitVec.toNat_setWidth_of_le (by omega))
  simp only [Slot.wire, flagByte_bit, kinds]

theorem actReadSlot_of_slot (p : Port) (n : SlotNo) (s : State) :
    actReadSlot p (octet n.val) s = (s, ⟨.ok, s.er[p].slots[n].wire ++ [s.er[p].portMask]⟩) := by
  simp only [actReadSlot, slotOf_octet]

theorem actReadSlot_of_range (p : Port) {x : Byte} (s : State) (high : 4 ≤ x.toNat) :
    actReadSlot p x s = (s, Reply.bare .range) := by
  simp only [actReadSlot, slotOf_range high]

/-- Settles O35: each request by its act, which gives the state back, and by the layout of what it reports. -/
theorem plainReadsChangeNothing : Obligations.PlainReadsChangeNothing := by
  unfold Obligations.PlainReadsChangeNothing
  refine fun p x s => ⟨fun unlisted => ?_, ⟨summaryOf (s.effectiveCauses p), summaryOf_eq_zero_iff _,
    fun n => first_of_summaryOf, ?_, ?_⟩, ?_, fun high => ?_, ?_, fun high => ?_, ?_, fun high => ?_⟩
  · exact answers_of_refusal (act := actUnknownCode) .unknown (if_pos unlisted) rfl rfl
  · exact answers_of_reply (act := actNop p) rfl rfl (actNop_eq p s)
  · exact answers_of_reply (act := actReadAttn p) rfl rfl (actReadAttn_eq p s)
  · rintro i e rfl rfl
    have acts := actReadEntry_of_entry i s
    rw [entry_wire_eq] at acts
    exact answers_of_reply (act := actReadEntry _) rfl rfl acts
  · exact answers_of_refusal (act := actReadEntry x) .range rfl rfl (actReadEntry_of_range s high)
  · rintro k r rfl rfl
    have acts := actReadTrack_of_track k s
    rw [track_wire_eq] at acts
    exact ⟨s.td[k].logical, s.td[k].line, track_logical_iff _, track_line_iff _,
      answers_of_reply (act := actReadTrack _) rfl rfl acts⟩
  · exact answers_of_refusal (act := actReadTrack x) .range rfl rfl (onTrackNo_range s _ high)
  · rintro n k rfl rfl
    have acts := actReadSlot_of_slot p n s
    rw [slot_wire_eq] at acts
    exact answers_of_reply (act := actReadSlot p _) rfl rfl acts
  · exact answers_of_refusal (act := actReadSlot p x) .range rfl rfl (actReadSlot_of_range p s high)

end Sys2Proof.Proofs
end

section
/-! PROOFS. Requests as bytes and as bits: what a port carries for a request reads back as it, and the rising edge that
brings its last bit is the request (R186, R187, R189, R196 to R199; log entry 6). -/

namespace Sys2Proof.Proofs

open Sys2Proof Sys2Proof.Machine Sys2Proof.Safety

/-! ### Bytes and bits (R185) -/

theorem byteOfBits_bitsOfByte (b : Byte) : byteOfBits (bitsOfByte b) = b := by
  have bit (i : Nat) (small : i < 8) : (b.getMsbD i).toNat = b.toNat / 2 ^ (7 - i) % 2 := by
    simp only [BitVec.getMsbD, BitVec.getLsbD, small, decide_true, Bool.true_and, Nat.toNat_testBit]
  have horner (k : Nat) : 2 * (b.toNat / 2 ^ (k + 1)) + b.toNat / 2 ^ k % 2 = b.toNat / 2 ^ k := by
    rw [Nat.pow_succ, ← Nat.div_div_eq_div_mul]
    exact Nat.div_add_mod _ 2
  have top : b.toNat / 2 ^ 8 = 0 := Nat.div_eq_of_lt b.isLt
  have whole : (bitsOfByte b).foldl (fun n b => 2 * n + b.toNat) (b.toNat / 2 ^ 8) = b.toNat / 2 ^ 0 := by
    simp only [bitsOfByte, List.foldl_cons, List.foldl_nil, bit, Nat.reduceLT, Nat.reduceSub, horner]
  rw [top, Nat.pow_zero, Nat.div_one] at whole
  rw [byteOfBits, whole, BitVec.ofNat_toNat, BitVec.setWidth_eq]

theorem bitsOfBytes_cons (b : Byte) (rest : List Byte) : bitsOfBytes (b :: rest) = bitsOfByte b ++ bitsOfBytes rest := rfl

/-- The bits of a byte in front of others are the first byte received. -/
theorem bytesOfBits_byte_append (b : Byte) (rest : List Bool) : bytesOfBits (bitsOfByte b ++ rest) = b :: bytesOfBits rest :=
  congrArg (· :: bytesOfBits rest) (byteOfBits_bitsOfByte b)

theorem bytesOfBits_bitsOfBytes (bytes : List Byte) : bytesOfBits (bitsOfBytes bytes) = bytes := by
  induction bytes with
  | nil => rfl
  | cons b rest ih => rw [bitsOfBytes_cons, bytesOfBits_byte_append, ih]

theorem bytesOfBits_of_short {bits : List Bool} (short : bits.length < 8) : bytesOfBits bits = [] := by
  unfold bytesOfBits
  split
  · simp only [List.length_cons] at short
    omega
  · rfl

theorem bitsOfByte_length (b : Byte) : (bitsOfByte b).length = 8 := rfl

/-! ### When a request is complete (R186, R189) -/

/-- A frame that has its code byte is a whole request exactly at the length that the code asks for. -/
theorem requestComplete_code_append (code : Byte) (rest : List Bool) :
    requestComplete (bitsOfByte code ++ rest) = (8 + rest.length == requestBits code) := by
  unfold requestComplete
  rw [bytesOfBits_byte_append, List.length_append, bitsOfByte_length]

theorem requestComplete_of_short {bits : List Bool} (short : bits.length < 8) : requestComplete bits = false := by
  unfold requestComplete
  rw [bytesOfBits_of_short short]

section Complete

variable {code : Byte} {operands : List Byte} (counted : operands.length = (operandCount code).getD 0)

include counted

theorem requestBits_of_counted : requestBits code = 8 * (code :: operands).length := by
  rw [requestBits, ← counted, List.length_cons, Nat.add_comm]

theorem requestComplete_whole : requestComplete (bitsOfBytes (code :: operands)) = true := by
  rw [bitsOfBytes_cons, requestComplete_code_append, requestBits_of_counted counted, bitsOfBytes_length,
    List.length_cons, beq_iff_eq]
  omega

/-- No earlier edge of the frame completes a request: the code byte is not there, or its operands are not. -/
theorem requestComplete_early {early : List Bool} (begins : early <+: bitsOfBytes (code :: operands))
    (lacks : early.length < 8 * (code :: operands).length) : requestComplete early = false := by
  by_cases short : early.length < 8
  · exact requestComplete_of_short short
  · have split : early = bitsOfByte code ++ (bitsOfBytes operands).take (early.length - 8) := by
      conv_lhs => rw [List.prefix_iff_eq_take.1 begins, bitsOfBytes_cons, List.take_append, bitsOfByte_length,
        List.take_of_length_le ((bitsOfByte_length code).trans_le (Nat.not_lt.1 short))]
    have length := congrArg List.length split
    rw [List.length_append, bitsOfByte_length] at length
    rw [split, requestComplete_code_append, ← length, requestBits_of_counted counted]
    exact beq_false_of_ne (Nat.ne_of_lt lacks)

end Complete

/-- R197: every request has as many operand bytes as its code asks for. -/
theorem requestLength (i : Instr) : Laws.RequestLength.Statement i := by
  intro p bytes carried
  cases i
  case unknownCode q code => exact Laws.RequestLength.unknownCode q code p bytes carried
  all_goals cases carried <;> exact ⟨_, _, rfl, rfl⟩

/-! ### The request that the bytes spell (R196 to R199) -/

theorem join16_bytes (w : BitVec 16) : join16 (w.extractLsb' 8 8) (w.extractLsb' 0 8) = w :=
  BitVec.extractLsb'_append_extractLsb'

theorem join24_bytes (w : BitVec 24) :
    join24 (w.extractLsb' 16 8) (w.extractLsb' 8 8) (w.extractLsb' 0 8) = w := by
  have upper : w.extractLsb' 16 8 ++ w.extractLsb' 8 8 = w.extractLsb' 8 16 :=
    BitVec.extractLsb'_append_extractLsb'_eq_extractLsb' rfl
  rw [join24, upper]
  exact BitVec.extractLsb'_append_extractLsb'

/-- A listed code is none that UNKNOWN_CODE carries. -/
theorem decodePlain_of_unlisted (p : Port) {code : Byte} (unlisted : operandCount code = none) :
    decodePlain p code = some (.unknownCode p code) := by
  unfold operandCount at unlisted
  unfold decodePlain
  split
  case h_19 => exact if_pos unlisted
  all_goals
    next value => simp only [value, reduceCtorEq] at unlisted

theorem decodeRequest_of_encodeRequest {i : Instr} {p : Port} {bytes : List Byte}
    (carried : encodeRequest i = some (p, bytes)) : decodeRequest p bytes = some i := by
  cases i
  case unknownCode q code =>
    by_cases unlisted : operandCount code = none
    · cases (if_pos unlisted).symm.trans carried
      exact decodePlain_of_unlisted p unlisted
    · cases (if_neg unlisted).symm.trans carried
  case writeEntry index image =>
    cases carried
    have decoded : decodeRequest p ([0x21, index] ++ imageBytes image) = some (.writeEntry p index
        { image with
          start := join16 (image.start.extractLsb' 8 8) (image.start.extractLsb' 0 8)
          stop := join16 (image.stop.extractLsb' 8 8) (image.stop.extractLsb' 0 8)
          width := join16 (image.width.extractLsb' 8 8) (image.width.extractLsb' 0 8) }) := rfl
    rwa [join16_bytes, join16_bytes, join16_bytes] at decoded
  case setAttnMask causes watermark =>
    cases carried
    exact congrArg (fun w => some (Instr.setAttnMask p w watermark)) (join16_bytes causes)
  case stageParam id value =>
    cases carried
    exact congrArg (fun w => some (Instr.stageParam p id w)) (join24_bytes value)
  all_goals cases carried <;> rfl

/-! ### The edge that completes a request (R186, R187) -/

/-- A request command is carried by a port, which takes it where it can. -/
theorem exec_of_encodeRequest {i : Instr} {p : Port} {bytes : List Byte} (carried : encodeRequest i = some (p, bytes))
    (s : State) : ∃ act, requestAct i = some act ∧ exec i s = .next (takeRequest p i act s) := by
  cases i
  case unknownCode q code =>
    by_cases unlisted : operandCount code = none
    · cases (if_pos unlisted).symm.trans carried
      exact ⟨_, rfl, rfl⟩
    · cases (if_neg unlisted).symm.trans carried
  all_goals cases carried <;> exact ⟨_, rfl, rfl⟩

theorem risingEdge_of_completed {p : Port} {bit : Bool} {s : State} {i : Instr} {act : State → State × Reply}
    (receiving : s.pi[p].framing = .receiving) (spelt : completedRequest p (s.pi[p].bits ++ [bit]) = some i)
    (acts : requestAct i = some act) : risingEdge p bit s = answerRequest p (s.pi[p].bits ++ [bit]) act s := by
  simp only [risingEdge, receiving, spelt, Option.bind_some, acts]

/-- Settles O55: the bytes by their layouts, the frame by its code byte, and both ways to the request by its act. -/
theorem requestBytesReadBackAndComplete : Obligations.RequestBytesReadBackAndComplete := by
  unfold Obligations.RequestBytesReadBackAndComplete
  intro i p bytes _ carried
  obtain ⟨code, operands, rfl, counted⟩ := requestLength i p bytes carried
  have decoded := decodeRequest_of_encodeRequest carried
  refine ⟨decoded, bytesOfBits_bitsOfBytes _, fun early => requestComplete_early counted,
    fun bit s high receiving low last => ?_⟩
  obtain ⟨act, acts, taken⟩ := exec_of_encodeRequest carried s
  have spelt : completedRequest p (s.pi[p].bits ++ [bit]) = some i := by
    rw [completedRequest, last, if_pos (requestComplete_whole counted), bytesOfBits_bitsOfBytes, decoded]
  have receives : Receives p (code :: operands) s := by
    refine ⟨high, receiving, ⟨[bit], last⟩, ?_⟩
    have length := congrArg List.length last
    rw [List.length_append, List.length_singleton, bitsOfBytes_length] at length
    omega
  rw [exec_clockRise high low, risingEdge_of_completed receiving spelt acts, taken,
    takeRequest_receives act carried receives, last]
  rfl

end Sys2Proof.Proofs
end

section
/-! PROOFS. Every command answers a next state and leaves the queue of waiting commands, and a request outside its frame
changes nothing (R185, R186; log entries 5 and 28). -/

namespace Sys2Proof.Proofs

open Sys2Proof Sys2Proof.Machine Sys2Proof.Safety

/-! ### Requests leave the queue -/

theorem giveUpClaim_pending (p : Port) (s : State) : (giveUpClaim p s).pending = s.pending := by
  have noted : (noteDiscarded p s).pending = s.pending := by
    unfold noteDiscarded
    split
    · rfl
    · split <;> rfl
  refine Eq.trans ?_ noted
  unfold giveUpClaim passClaim
  split <;> rfl

theorem freeOne_pending (i : EntryNo) (s : State) : (freeOne i s).pending = s.pending := by
  unfold freeOne
  rw [State.modEntry_pending]
  split
  · exact (withdrawEntry_frame i s).pending
  · rfl

theorem detachEntries_pending (p : Port) (s : State) : (detachEntries p s).pending = s.pending := by
  have freed (l : List EntryNo) (t : State) : (l.foldl (freeIfOwned p) t).pending = t.pending := by
    induction l generalizing t with
    | nil => rfl
    | cons i rest ih =>
        refine (ih _).trans ?_
        unfold freeIfOwned
        split
        · exact freeOne_pending i t
        · rfl
  rw [detachEntries_eq, modOwned_pending]
  exact freed _ s

theorem detachClaim_pending (p : Port) (s : State) : (detachClaim p s).pending = s.pending := by
  refine Eq.trans (b := (if s.cc.holder = some p then giveUpClaim p s else s).pending) rfl ?_
  split
  · exact giveUpClaim_pending p s
  · rfl

theorem actDetach_pending (p : Port) (s : State) : (actDetach p s).1.pending = s.pending := by
  have marks (t : State) : ((detachMarks p t).modEvents p fun _ => EventPort.default).pending = t.pending := rfl
  have tracks (t : State) : (releaseTracksOf p t).pending = t.pending := rfl
  rw [actDetach_eq, State.modPort_pending, detached, marks, detachClaim_pending, tracks, detachEntries_pending]

/-- What a block does for a request it does not do to the queue. -/
theorem requestAct_pending {i : Instr} {act : State → State × Reply} (e : requestAct i = some act) (s : State) :
    (act s).1.pending = s.pending := by
  have same : s.pending = s.pending := rfl
  cases i <;> simp only [requestAct, Option.some.injEq, reduceCtorEq] at e <;> subst e
  case detach p => exact actDetach_pending p s
  case freerunOn => exact holderOnly_elim (Q := (·.pending = s.pending)) same (closed_reference.startFreeRun s).pending
  case freerunOff =>
    refine holderOnly_elim (Q := (·.pending = s.pending)) same ?_
    split
    · exact (closed_reference.enterSearch s).pending
    · rfl
  case restartReference =>
    exact holderOnly_elim (Q := (·.pending = s.pending)) same (closed_reference.restart s).pending
  case commit =>
    refine holderOnly_elim (Q := (·.pending = s.pending)) same ?_
    split
    · rfl
    · rfl
    · split
      · rfl
      · exact (applyRecord_reference _ s).pending
  case holdEntry =>
    refine onOwnEntry_elim (Q := (·.pending = s.pending)) same fun i => ?_
    split
    · exact (withdrawEntry_frame i s).pending
    · rfl
  case freeEntry => exact onOwnEntry_elim (Q := (·.pending = s.pending)) same fun i => freeOne_pending i s
  case modifyFlags =>
    refine onOwnEntry_elim (Q := (·.pending = s.pending)) same fun i => ?_
    split
    · rfl
    · exact (pauseNow_frame i _ _).pending
  case releaseClaim p =>
    unfold actReleaseClaim
    split
    · exact giveUpClaim_pending p s
    · rfl
  case allocEntry | writeEntry | readEntry | armEntry | assignTrack | releaseTrack | setTrack | driveTrack | readTrack
      | popEvent | readLatest | writeSlot | readSlot | setAttnMask | requestClaim | withdraw | stageParam | readParam
      | discard | setQuota | clearCounters =>
    simp only [actAllocEntry, actWriteEntry, actReadEntry, actArmEntry, actAssignTrack, actReleaseTrack, actSetTrack,
      actDriveTrack, actReadTrack, actPopEvent, actReadLatest, actWriteSlot, actReadSlot, actSetAttnMask,
      actRequestClaim, actWithdraw, actStageParam, actReadParam, actDiscard, actSetQuota, actClearCounters, onOwnEntry,
      onOwnTrack, onTrackNo, holderOnly]
    repeat' split
    all_goals rfl
  all_goals rfl

/-! ### Every command -/

theorem takeRequest_pending {act : State → State × Reply} (kept : ∀ s, (act s).1.pending = s.pending) (p : Port)
    (i : Instr) (s : State) : (takeRequest p i act s).pending = s.pending := by
  unfold takeRequest
  split
  · rfl
  · split
    · exact kept s
    · rfl

theorem clockEdge_pending (p : Port) (rising sdi : Bool) (s : State) : (clockEdge p rising sdi s).pending = s.pending := by
  have rises : (risingEdge p sdi s).pending = s.pending := by
    unfold risingEdge
    split
    · rfl
    · rfl
    · rfl
    · rfl
    · split
      · rfl
      · next act completed =>
          obtain ⟨i, -, acts⟩ := Option.bind_eq_some_iff.1 completed
          exact requestAct_pending acts s
  unfold clockEdge
  split_ifs
  · rfl
  · rfl
  · exact rises
  · rfl

theorem selectRises_pending (p : Port) (s : State) : (selectRises p s).pending = s.pending := by
  unfold selectRises
  split <;> rfl

theorem fireFirstTicket_pending (s : State) : (fireFirstTicket s).pending = s.pending := by
  unfold fireFirstTicket
  split
  · rfl
  · exact (fire_frame _ _ _ _).pending

/-- An event of the inputs, of the clock or of a port's lines answers, and leaves the queue. -/
theorem exec_event_answers {i : Instr} (e : requestAct i = none) (s : State) :
    ∃ t, exec i s = .next t ∧ t.pending = s.pending := by
  cases i <;> simp only [requestAct, reduceCtorEq] at e <;> refine ⟨_, rfl, ?_⟩
  case deviceReset | selectFall => rfl
  case serialClockEdge p rising sdi => exact clockEdge_pending p rising sdi s
  all_goals split
  case rawLevelChange.isTrue line level _ => 
    rw [holdInReset_pending, setLine_frame]
  case rawLevelChange.isFalse line level _ => exact (closed_reference.rawChange line level s).pending
  case runExpiry.isTrue line _ => exact (closed_reference.filteredTransition line s).pending
  case standstillExpiry.isTrue => exact (closed_reference.standstillExpires s).pending
  case missDeadlineExpiry.isTrue => exact (closed_reference.synthStep s).pending
  case freeStep.isTrue => exact (closed_reference.freeRunStep s).pending
  case ticketDue.isTrue => exact fireFirstTicket_pending s
  case selectRise.isFalse p _ => exact selectRises_pending p s
  all_goals rfl

theorem exec_answers (i : Instr) (s : State) : ∃ t, exec i s = .next t ∧ t.pending = s.pending := by
  cases acts : requestAct i with
  | some act =>
      obtain ⟨p, taken⟩ := exec_of_requestAct acts s
      exact ⟨_, taken, takeRequest_pending (requestAct_pending acts) p i s⟩
  | none => exact exec_event_answers acts s

/-- Settles O3: a request is taken by its port or changes nothing, and no operation of a block touches the queue. -/
theorem everyCommandAnswersAndKeepsTheQueue : Obligations.EveryCommandAnswersAndKeepsTheQueue := by
  unfold Obligations.EveryCommandAnswersAndKeepsTheQueue
  refine fun i s => ⟨exec_answers i s, fun p bytes carried outside => ?_⟩
  obtain ⟨act, -, taken⟩ := exec_of_encodeRequest carried s
  rw [taken, takeRequest_not_receives act carried outside]

end Sys2Proof.Proofs
end

section
/-! PROOFS. The hub while RESET_n is low: what each command does to the input pins and their followers, and that nothing else
moves (R132, R163, R195; log entry 9). -/

namespace Sys2Proof.Proofs

open Sys2Proof Sys2Proof.Machine Sys2Proof.Safety

/-! ### What follows the pins (log entry 9) -/

/-- The hub held in reset after a command: a line's level, a select line or a clock has moved, or nothing has. -/
def pinsFollowed (c : Instr) (s : State) : State :=
  match c with
  | .rawLevelChange line level => holdInReset (setLine line (fun l => { l with raw := level }) s)
  | .selectFall p => s.modPort p PortInterface.fallInReset
  | .selectRise p => s.modPort p PortInterface.rise
  | .serialClockEdge p rising _ => s.modPort p fun q => { q with sck := rising }
  | _ => s

theorem modPort_of_fixed {p : Port} {f : PortInterface → PortInterface} {s : State} (fixed : f s.pi[p] = s.pi[p]) :
    s.modPort p f = s := by
  rw [State.modPort, vmod_id _ _ _ fixed]

theorem rise_of_idle {q : PortInterface} (idle : q.framing = .idle) : q.rise = q := by
  simp only [PortInterface.rise, idle]

theorem rise_framing (q : PortInterface) : q.rise.framing = .idle := by
  cases framing : q.framing <;> simp only [PortInterface.rise, framing]

section Held

variable {s : State} (low : s.resetLow = true) (held : holdInReset s = s)

include held

theorem not_due_of_held (c : Instr) : c ∉ dueEvents s :=
  (held ▸ dueEvents_holdInReset s : dueEvents s = []) ▸ List.not_mem_nil

theorem removeMarks_of_held (p : Port) : removeMarks p s = s := by
  rw [← held, removeMarks_holdInReset]

theorem selectRises_of_held {p : Port} (busy : s.pi[p].framing ≠ .idle) :
    selectRises p s = s.modPort p PortInterface.rise := by
  have discarding : s.pi[p].framing = .discarding := (heldPort_of_held held p).discarding busy
  rw [selectRises, if_neg (by rw [discarding]; exact fun e => nomatch e), removeMarks_of_held held]

theorem holdInReset_setLine (line : LineId) (f : FilterLine → FilterLine) :
    holdInReset (setLine line f s) = { s with eq := (holdInReset (setLine line f s)).eq } := by
  calc holdInReset (setLine line f s) = { holdInReset s with eq := (holdInReset (setLine line f s)).eq } := by
        cases line <;> rfl
    _ = { s with eq := (holdInReset (setLine line f s)).eq } := by rw [held]

include low

/-- While RESET_n is low no request is taken and no timed event is due. -/
theorem exec_of_held (c : Instr) : exec c s = .next (pinsFollowed c s) := by
  cases acts : requestAct c with
  | some act =>
      obtain same | ⟨_, _, _, high, _⟩ := exec_request acts s
      · cases c <;> simp only [requestAct, reduceCtorEq] at acts <;> exact same
      · exact absurd (high.symm.trans low) Bool.false_ne_true
  | none =>
      have notDue := not_due_of_held held
      cases c <;> simp only [requestAct, reduceCtorEq] at acts <;> refine congrArg Host.Outcome.next ?_
      case deviceReset => exact held
      case rawLevelChange => exact if_pos low
      case selectFall => rw [if_pos low]; rfl
      case selectRise p =>
        split
        · next idle => exact (modPort_of_fixed (rise_of_idle idle)).symm
        · next busy => exact selectRises_of_held held busy
      case serialClockEdge p rising sdi =>
        unfold clockEdge
        split_ifs with same
        · exact (modPort_of_fixed (by rw [← same])).symm
        · rfl
      case runExpiry line => exact if_neg fun due => notDue (.runExpiry line) (mem_dueEvents.2 (by simp [due]))
      case gapCountExpiry => exact if_neg fun due => notDue .gapCountExpiry (mem_dueEvents.2 (by simp [due]))
      case standstillExpiry => exact if_neg fun due => notDue .standstillExpiry (mem_dueEvents.2 (by simp [due]))
      case missDeadlineExpiry => exact if_neg fun due => notDue .missDeadlineExpiry (mem_dueEvents.2 (by simp [due]))
      case freeStep => exact if_neg fun due => notDue .freeStep (mem_dueEvents.2 (by simp [due]))
      case ticketDue => exact if_neg fun due => notDue .ticketDue (mem_dueEvents.2 (by simp [due]))
      case pulseEnd k =>
        exact if_neg fun due => notDue (.pulseEnd k) (mem_dueEvents.2 (by simp [-Fin.getElem_fin, due]))

end Held

/-! ### The lines and the ports, command by command -/

/-- R15: in reset a line's filter holds the level that the line has. -/
theorem holdInReset_line (s : State) (line : LineId) :
    (holdInReset s).eq.line line = ⟨(s.eq.line line).raw, (s.eq.line line).raw, none⟩ := by
  cases line with
  | tooth => rfl
  | index => rfl
  | gate n => simp [EdgeQualifier.line, EdgeQualifier.reset]

theorem pinsFollowed_raw (c : Instr) (s : State) (line : LineId) :
    ((pinsFollowed c s).eq.line line).raw = (match c with
      | .rawLevelChange other level => if other = line then level else (s.eq.line line).raw
      | _ => (s.eq.line line).raw) := by
  cases c
  case rawLevelChange other level =>
    simp only [pinsFollowed, holdInReset_line]
    split
    · next same => rw [same, setLine_line_self]
    · next apart => rw [setLine_line_ne (Ne.symm apart)]
  all_goals rfl

section Ports

variable {s : State} (held : holdInReset s = s) (c : Instr)

include held

/-- Nothing but EQ and the Port Interfaces moves. -/
theorem pinsFollowed_frame : pinsFollowed c s = { s with eq := (pinsFollowed c s).eq, pi := (pinsFollowed c s).pi } := by
  cases c
  case rawLevelChange line level => rw [pinsFollowed, holdInReset_setLine held]
  all_goals rfl

theorem pinsFollowed_framing (p : Port) :
    (pinsFollowed c s).pi[p].framing = (match c with
      | .selectFall q => if q = p then .discarding else s.pi[p].framing
      | .selectRise q => if q = p then .idle else s.pi[p].framing
      | _ => s.pi[p].framing) := by
  cases c
  case rawLevelChange line level => rw [pinsFollowed, holdInReset_setLine held]
  case selectFall q =>
    simp only [pinsFollowed, State.modPort_pi, vmod_at]
    split <;> rfl
  case selectRise q =>
    simp only [pinsFollowed, State.modPort_pi, vmod_at]
    split
    · exact rise_framing _
    · rfl
  case serialClockEdge q rising sdi =>
    simp only [pinsFollowed, State.modPort_pi, vmod_at]
    split <;> rfl
  all_goals rfl

theorem pinsFollowed_sck (p : Port) :
    (pinsFollowed c s).pi[p].sck = (match c with
      | .serialClockEdge q rising _ => if q = p then rising else s.pi[p].sck
      | _ => s.pi[p].sck) := by
  cases c
  case rawLevelChange line level => rw [pinsFollowed, holdInReset_setLine held]
  case selectFall q =>
    simp only [pinsFollowed, State.modPort_pi, vmod_at]
    split <;> rfl
  case selectRise q =>
    have kept : s.pi[p].rise.sck = s.pi[p].sck := by
      cases framing : s.pi[p].framing <;> simp only [PortInterface.rise, framing]
    simp only [pinsFollowed, State.modPort_pi, vmod_at]
    split
    · exact kept
    · rfl
  case serialClockEdge q rising sdi =>
    simp only [pinsFollowed, State.modPort_pi, vmod_at]
    split <;> rfl
  all_goals rfl

end Ports

/-! ### The hub held in reset (R132, R163, R195) -/

section Fixed

variable {t : State} (held : holdInReset t = t)

include held

theorem port_of_held (p : Port) :
    (t.pi[p].framing = .idle ∨ t.pi[p].framing = .discarding) ∧ t.pi[p].sdo = none ∧ t.pi[p].response = []
      ∧ t.pi[p].frameErrors = 0 ∧ t.attentionLow p = false := by
  have port : HeldPort t.pi[p] := heldPort_of_held held p
  have reset : ResetFrom t t := by
    have holds := resetFrom_holdInReset t
    rwa [held] at holds
  refine ⟨?_, (congrArg PortInterface.sdo port).symm, (congrArg PortInterface.response port).symm,
    (congrArg PortInterface.frameErrors port).symm, reset.attentionLow p⟩
  by_cases idle : t.pi[p].framing = .idle
  · exact .inl idle
  · exact .inr (port.discarding idle)

theorem trackLine_of_held (k : TrackNo) : t.trackLine k = false := by
  have table : TableReset (holdInReset t) := ⟨rfl, rfl, rfl, rfl⟩
  rw [← held]
  exact (table.track k).2

theorem line_of_held (line : LineId) : t.eq.line line = ⟨(t.eq.line line).raw, (t.eq.line line).raw, none⟩ := by
  conv_lhs => rw [← held, holdInReset_line]

end Fixed

/-- Settles O6: a command leaves the hub held with its pins followed, and a hub held in reset has reset values throughout. -/
theorem nothingRunsWhileResetIsLow : Obligations.NothingRunsWhileResetIsLow := by
  unfold Obligations.NothingRunsWhileResetIsLow
  intro c s heldLaw low
  have held : holdInReset s = s := (heldInReset_iff s).1 heldLaw low
  have runs := exec_of_held low held c
  obtain ⟨-, stays⟩ := exec_held low held runs
  refine ⟨fun p bytes ⟨high, _⟩ => absurd (high.symm.trans low) Bool.false_ne_true, pinsFollowed c s, runs,
    port_of_held stays, trackLine_of_held stays, fun line => ⟨line_of_held stays line, ?_⟩,
    fun p => ⟨?_, ?_⟩, pinsFollowed_frame held c, exec_heldInReset heldLaw runs⟩
  · exact pinsFollowed_raw c s line
  · exact pinsFollowed_framing held c p
  · exact pinsFollowed_sck held c p

end Sys2Proof.Proofs
end

section
/-! PROOFS. DETACH (R193): what its parts leave of the table, the lists, the tracks and the records, of the claim, and of
what is the port's own (R16, R33, R79, R102, R123, R124, R147, R165, R183). -/

namespace Sys2Proof.Proofs

open Sys2Proof Sys2Proof.Machine Sys2Proof.Safety

/-! ### The windows of some entries closed, in two states -/

theorem closedWindows_td_congr (spends : Bool) {l : List EntryNo} {s t : State} (td : t.td = s.td)
    (entries : ∀ i ∈ l, t.ctc.entries[i] = s.ctc.entries[i]) :
    (closedWindows spends l t).td = (closedWindows spends l s).td := by
  have counts (k : TrackNo) : l.countP (fun i => t.ctc.entries[i].image.track == some k)
      = l.countP fun i => s.ctc.entries[i].image.track == some k :=
    List.countP_congr fun i listed => by rw [entries i listed]
  simp only [closedWindows, td, counts]

theorem closedWindows_er_congr (spends : Bool) {l : List EntryNo} {s t : State} (er : t.er = s.er)
    (events : ∀ i ∈ l, closeEvents spends t i = closeEvents spends s i) :
    (closedWindows spends l t).er = (closedWindows spends l s).er := by
  simp only [closedWindows, er, List.flatMap_congr events]

/-! ### The entries of p freed (R102, R123, R124) -/

/-- An entry of p. -/
def ownedBy (p : Port) (s : State) (i : EntryNo) : Bool := s.ctc.entries[i].owner == some p

/-- An entry of p that is ARMING or LIVE, which is taken out of service before it is freed. -/
def servedFor (p : Port) (s : State) (i : EntryNo) : Bool := ownedBy p s i && s.ctc.entries[i].armed

theorem ownedBy_iff (p : Port) (s : State) (i : EntryNo) : ownedBy p s i = true ↔ s.ctc.entries[i].owner = some p :=
  beq_iff_eq

theorem servedFor_iff (p : Port) (s : State) (i : EntryNo) :
    servedFor p s i = true ↔
      ownedBy p s i = true ∧ (s.ctc.entries[i].state = .arming ∨ s.ctc.entries[i].state = .live) := by
  rw [servedFor, Bool.and_eq_true, entry_armed_iff]

/-- An entry of p that stands on a list. -/
def freesAmong (p : Port) (l : List EntryNo) (s : State) (i : EntryNo) : Bool := decide (i ∈ l) && ownedBy p s i

/-- An entry in service that stands on a list. -/
def servesAmong (p : Port) (l : List EntryNo) (s : State) (i : EntryNo) : Bool := decide (i ∈ l) && servedFor p s i

/-- The entries of a list that belong to p, are in service and have their windows open. -/
def openServed (p : Port) (l : List EntryNo) (s : State) : List EntryNo :=
  l.filter fun i => servedFor p s i && s.ctc.entries[i].windowOpen

/-- The entries of a list that belong to p are freed: the points and the windows of those in service go first. -/
def freedAmong (p : Port) (l : List EntryNo) (s : State) : State :=
  { s with
    fs := { s.fs with
      tickets := s.fs.tickets.filter fun u => !servesAmong p l s u.entry
      deferred := s.fs.deferred.filter fun d => !servesAmong p l s d.entry }
    ctc := { s.ctc with
      entries := Vector.ofFn fun i => if freesAmong p l s i = true then Entry.default else s.ctc.entries[i] }
    td := (closedWindows false (openServed p l s) s).td
    er := (closedWindows false (openServed p l s) s).er }

theorem freedAmong_td (p : Port) (l : List EntryNo) (s : State) :
    (freedAmong p l s).td = (closedWindows false (openServed p l s) s).td := rfl

theorem freedAmong_er (p : Port) (l : List EntryNo) (s : State) :
    (freedAmong p l s).er = (closedWindows false (openServed p l s) s).er := rfl

theorem freedAmong_entry (p : Port) (l : List EntryNo) (s : State) (i : EntryNo) :
    (freedAmong p l s).ctc.entries[i] =
      if freesAmong p l s i = true then Entry.default else s.ctc.entries[i] := ofFn_at _ i

theorem freedAmong_entry_of_not_mem (p : Port) {l : List EntryNo} (s : State) {i : EntryNo} (absent : i ∉ l) :
    (freedAmong p l s).ctc.entries[i] = s.ctc.entries[i] := by
  rw [freedAmong_entry, freesAmong, decide_eq_false absent, Bool.false_and, if_neg Bool.false_ne_true]

/-- Across the freeing of other entries an entry is in service as before. -/
theorem servedFor_freedAmong (p : Port) {l : List EntryNo} (s : State) {i : EntryNo} (absent : i ∉ l) :
    servedFor p (freedAmong p l s) i = servedFor p s i := by
  simp only [servedFor, ownedBy, freedAmong_entry_of_not_mem p s absent]

/-- Where no window of an entry in service is open, no record is posted and no track changes. -/
theorem freedAmong_of_no_window {p : Port} {l : List EntryNo} {s : State} (closed : openServed p l s = []) :
    freedAmong p l s = { s with
      fs := { s.fs with
        tickets := s.fs.tickets.filter fun u => !servesAmong p l s u.entry
        deferred := s.fs.deferred.filter fun d => !servesAmong p l s d.entry }
      ctc := { s.ctc with
        entries := Vector.ofFn fun i => if freesAmong p l s i = true then Entry.default else s.ctc.entries[i] } } := by
  simp only [freedAmong, closed, closedWindows_nil]

theorem freedAmong_nil (p : Port) (s : State) : freedAmong p [] s = s := by
  rw [freedAmong_of_no_window rfl]
  simp [freesAmong, servesAmong]

/-- The table with entry i of p made FREE. -/
theorem entries_freed {p : Port} {i : EntryNo} {s : State} (owned : ownedBy p s i = true) :
    (Vector.ofFn fun j : EntryNo =>
        if freesAmong p [i] s j = true then Entry.default else s.ctc.entries[j])
      = vmod s.ctc.entries i fun _ => Entry.default := by
  refine vector_ext_at fun j => ?_
  rw [ofFn_at, vmod_at]
  by_cases same : i = j
  · subst same
    simp [freesAmong, owned]
  · simp [freesAmong, same, Ne.symm same]

theorem entries_of_not_owned {p : Port} {i : EntryNo} {s : State} (foreign : ownedBy p s i = false) :
    (Vector.ofFn fun j : EntryNo =>
        if freesAmong p [i] s j = true then Entry.default else s.ctc.entries[j]) = s.ctc.entries := by
  refine vector_ext_at fun j => ?_
  rw [ofFn_at]
  by_cases same : j = i
  · subst same
    simp [freesAmong, foreign]
  · simp [freesAmong, same]

/-- The points of entry i go exactly where it is in service. -/
theorem stays_of_served {p : Port} {i : EntryNo} {s : State} (served : servedFor p s i = true) (j : EntryNo) :
    (!servesAmong p [i] s j) = decide (j ≠ i) := by
  by_cases same : j = i
  · subst same
    simp [servesAmong, served]
  · simp [servesAmong, same]

theorem stays_of_not_served {p : Port} {i : EntryNo} {s : State} (idle : servedFor p s i = false) (j : EntryNo) :
    (!servesAmong p [i] s j) = true := by
  by_cases same : j = i
  · subst same
    simp [servesAmong, idle]
  · simp [servesAmong, same]

section One

variable {p : Port} {i : EntryNo} {s : State}

theorem listed_of_open (served : servedFor p s i = true) (isOpen : s.ctc.entries[i].windowOpen = true) :
    openServed p [i] s = [i] :=
  List.filter_cons_of_pos (by rw [served, isOpen]; rfl)

theorem listed_of_closed (closed : (servedFor p s i && s.ctc.entries[i].windowOpen) = false) :
    openServed p [i] s = [] :=
  List.filter_cons_of_neg (by rw [closed]; exact Bool.false_ne_true)

/-- R93, R95: an entry in service whose window is open. -/
theorem freeOne_of_open (served : servedFor p s i = true) (isOpen : s.ctc.entries[i].windowOpen = true) :
    freeOne i s = freedAmong p [i] s := by
  obtain ⟨owned, armed⟩ := (servedFor_iff p s i).1 served
  have closes : closeWindow (forcedOccasion s) i (removePoints i s) = closedWindows false [i] (removePoints i s) :=
    closeWindow_eq_closedWindows rfl
  have lists : (closedWindows false [i] (removePoints i s)).fs = (removePoints i s).fs := by
    simp [closedWindows, goesWith, removePoints]
  have tracks : (closedWindows false [i] (removePoints i s)).td = (closedWindows false [i] s).td :=
    closedWindows_td_congr false rfl fun _ _ => rfl
  have records : (closedWindows false [i] (removePoints i s)).er = (closedWindows false [i] s).er :=
    closedWindows_er_congr false rfl fun j _ => closeEvents_congr rfl (removePoints_frame i s)
  have entries : (vmod (closedWindows false [i] (removePoints i s)).ctc.entries i fun _ => Entry.default)
      = vmod s.ctc.entries i fun _ => Entry.default := by
    refine vector_ext_at fun j => ?_
    rw [vmod_at, vmod_at, closedWindows_entry]
    by_cases same : i = j
    · rw [if_pos same, if_pos same]
    · rw [if_neg same, if_neg same, if_neg (by simpa using Ne.symm same)]
      rfl
  rw [freeOne, if_pos armed, withdrawEntry_of_open isOpen, closes, State.modEntry, entries,
    eq_of_firingFrame (closedWindows_frame false [i] (removePoints i s)), lists, tracks, records, freedAmong,
    listed_of_open served isOpen, entries_freed owned]
  simp only [stays_of_served served]
  rfl

theorem freeOne_of_armed_closed (served : servedFor p s i = true) (closed : s.ctc.entries[i].windowOpen = false) :
    freeOne i s = freedAmong p [i] s := by
  obtain ⟨owned, armed⟩ := (servedFor_iff p s i).1 served
  rw [freeOne, if_pos armed, withdrawEntry_of_closed (by rw [closed]; exact Bool.false_ne_true),
    freedAmong_of_no_window (listed_of_closed (by rw [closed, Bool.and_false])), entries_freed owned]
  simp only [stays_of_served served]
  rfl

theorem freeOne_of_not_served (owned : ownedBy p s i = true) (idle : servedFor p s i = false) :
    freeOne i s = freedAmong p [i] s := by
  have unarmed : ¬(s.ctc.entries[i].state = .arming ∨ s.ctc.entries[i].state = .live) := fun armed =>
    Bool.false_ne_true (idle.symm.trans ((servedFor_iff p s i).2 ⟨owned, armed⟩))
  rw [freeOne, if_neg unarmed, freedAmong_of_no_window (listed_of_closed (by rw [idle, Bool.false_and])),
    entries_freed owned]
  simp only [stays_of_not_served idle, List.filter_true]
  rfl

theorem eq_freedAmong_of_foreign (foreign : ownedBy p s i = false) : s = freedAmong p [i] s := by
  have idle : servedFor p s i = false := by rw [servedFor, foreign, Bool.false_and]
  rw [freedAmong_of_no_window (listed_of_closed (by rw [idle, Bool.false_and])), entries_of_not_owned foreign]
  simp only [stays_of_not_served idle, List.filter_true]

/-- R95: one entry, by its owner, its state and its window. -/
theorem freeIfOwned_eq_freedAmong (p : Port) (s : State) (i : EntryNo) : freeIfOwned p s i = freedAmong p [i] s := by
  unfold freeIfOwned
  cases owned : ownedBy p s i with
  | false =>
      rw [if_neg fun own => Bool.false_ne_true (owned.symm.trans ((ownedBy_iff p s i).2 own))]
      exact eq_freedAmong_of_foreign owned
  | true =>
      rw [if_pos ((ownedBy_iff p s i).1 owned)]
      cases served : servedFor p s i with
      | false => exact freeOne_of_not_served owned served
      | true =>
          cases isOpen : s.ctc.entries[i].windowOpen with
          | false => exact freeOne_of_armed_closed served isOpen
          | true => exact freeOne_of_open served isOpen

end One

/-! ### The entries of p freed in turn -/

/-- The records of a forced close are told by the entry, the time and the reference. -/
theorem closeEvents_of_entry {spends : Bool} {s t : State} {i : EntryNo} (entry : t.ctc.entries[i] = s.ctc.entries[i])
    (stamp : t.stamp = s.stamp) (ag : t.ag = s.ag) (ls : t.ls = s.ls) (pt : t.pt = s.pt) (cc : t.cc = s.cc) :
    closeEvents spends t i = closeEvents spends s i := by
  simp only [closeEvents, entry, stamp, State.cycleIfValid, State.angle, State.period, State.toothEnd, State.estimate, ag,
    ls, pt, cc]

/-- The forced close of an entry's window reads of the rest of the hub only what DETACH does not change. -/
theorem closeEvents_freedAmong (p : Port) {l : List EntryNo} {i : EntryNo} (absent : i ∉ l) (s : State) :
    closeEvents false (freedAmong p l s) i = closeEvents false s i := by
  have stamp : (freedAmong p l s).stamp = s.stamp := by unfold freedAmong; rfl
  have ag : (freedAmong p l s).ag = s.ag := by unfold freedAmong; rfl
  have ls : (freedAmong p l s).ls = s.ls := by unfold freedAmong; rfl
  have pt : (freedAmong p l s).pt = s.pt := by unfold freedAmong; rfl
  have cc : (freedAmong p l s).cc = s.cc := by unfold freedAmong; rfl
  exact closeEvents_of_entry (freedAmong_entry_of_not_mem p s absent) stamp ag ls pt cc

section Append

variable (p : Port) {l m : List EntryNo} (apart : ∀ i ∈ m, i ∉ l) (s : State)

include apart

theorem stays_append (i : EntryNo) :
    (!servesAmong p m (freedAmong p l s) i && !servesAmong p l s i) = !servesAmong p (l ++ m) s i := by
  by_cases listed : i ∈ m
  · rw [servesAmong, servedFor_freedAmong p s (apart i listed)]
    simp [servesAmong, listed, apart i listed]
  · simp [servesAmong, listed]

theorem entries_append (i : EntryNo) :
    (if freesAmong p m (freedAmong p l s) i = true then Entry.default
      else (freedAmong p l s).ctc.entries[i])
      = if freesAmong p (l ++ m) s i = true then Entry.default else s.ctc.entries[i] := by
  by_cases listed : i ∈ m
  · rw [freesAmong, ownedBy, freedAmong_entry_of_not_mem p s (apart i listed)]
    simp [-Fin.getElem_fin, freesAmong, listed, ownedBy]
  · rw [freedAmong_entry]
    simp [-Fin.getElem_fin, freesAmong, listed]

theorem openServed_append :
    openServed p l s ++ openServed p m (freedAmong p l s) = openServed p (l ++ m) s := by
  rw [openServed, openServed, openServed, List.filter_append]
  refine congrArg _ (List.filter_congr fun i listed => ?_)
  rw [servedFor_freedAmong p s (apart i listed), freedAmong_entry_of_not_mem p s (apart i listed)]

/-- The windows of the second list close behind those of the first. -/
theorem closedWindows_freedAmong :
    (closedWindows false (openServed p m (freedAmong p l s)) (freedAmong p l s)).td
        = (closedWindows false (openServed p (l ++ m) s) s).td
      ∧ (closedWindows false (openServed p m (freedAmong p l s)) (freedAmong p l s)).er
        = (closedWindows false (openServed p (l ++ m) s) s).er := by
  have later (i : EntryNo) (listed : i ∈ openServed p m (freedAmong p l s)) : i ∉ l :=
    apart i (List.mem_of_mem_filter listed)
  have fresh (i : EntryNo) (listed : i ∈ openServed p m (freedAmong p l s)) : i ∉ openServed p l s :=
    fun sooner => later i listed (List.mem_of_mem_filter sooner)
  rw [← openServed_append p apart s, ← closedWindows_append false fresh s]
  constructor
  · refine closedWindows_td_congr false (freedAmong_td p l s) fun i listed => ?_
    rw [freedAmong_entry_of_not_mem p s (later i listed), closedWindows_entry, if_neg (fresh i listed)]
  · refine closedWindows_er_congr false (freedAmong_er p l s) fun i listed => ?_
    rw [closeEvents_freedAmong p (later i listed), closeEvents_closedWindows (fresh i listed)]

/-- The freeing of one list of entries and then of another, apart from it. -/
theorem freedAmong_append : freedAmong p m (freedAmong p l s) = freedAmong p (l ++ m) s := by
  have stays := stays_append p apart s
  have entries := entries_append p apart s
  obtain ⟨tracks, records⟩ := closedWindows_freedAmong p apart s
  rw [freedAmong, tracks, records]
  simp only [entries]
  unfold freedAmong at stays ⊢
  simp only [List.filter_filter, stays]

end Append

theorem foldl_freeIfOwned_eq (p : Port) {l : List EntryNo} (once : l.Nodup) (s : State) :
    l.foldl (freeIfOwned p) s = freedAmong p l s := by
  induction l generalizing s with
  | nil => exact (freedAmong_nil p s).symm
  | cons i rest ih =>
      obtain ⟨fresh, onceRest⟩ := List.nodup_cons.1 once
      rw [List.foldl_cons, ih onceRest, freeIfOwned_eq_freedAmong, freedAmong_append]
      · rfl
      · intro j listed
        rw [List.mem_singleton]
        exact ne_of_mem_of_not_mem listed fresh

/-! ### Part 1: the entries (R102) -/

/-- The table after p's entries are freed; p's owned count is 0. -/
def tableWithout (p : Port) (s : State) : CamTable :=
  { s.ctc with
    entries := Vector.ofFn fun i => if ownedBy p s i = true then Entry.default else s.ctc.entries[i]
    owned := s.ctc.owned.set p.val 0 }

/-- The lists without the points of p's entries in service (R124). -/
def listsWithout (p : Port) (s : State) : FiringScheduler :=
  { s.fs with
    tickets := s.fs.tickets.filter fun u => !servedFor p s u.entry
    deferred := s.fs.deferred.filter fun d => !servedFor p s d.entry }

theorem detachEntries_leaves (p : Port) (s : State) :
    detachEntries p s = { s with
      ctc := tableWithout p s
      fs := listsWithout p s
      td := Vector.ofFn fun k => { s.td[k] with windowCount := s.td[k].windowCount - windowsOn (servedFor p s) s k }
      er := (postAll (forcedCloses false (servedFor p s) s) s).er } := by
  have once : allEntries.Nodup := List.nodup_finRange 64
  have every (i : EntryNo) : i ∈ allEntries := List.mem_finRange i
  have frees : freesAmong p allEntries s = ownedBy p s :=
    funext fun i => by rw [freesAmong, decide_eq_true (every i), Bool.true_and]
  have serves : servesAmong p allEntries s = servedFor p s :=
    funext fun i => by rw [servesAmong, decide_eq_true (every i), Bool.true_and]
  have listed : openServed p allEntries s = openAmong (servedFor p s) s := rfl
  have closes := closedWindows_openAmong false (servedFor p s) s
  have tracks : (closedWindows false (openServed p allEntries s) s).td = Vector.ofFn fun k =>
      { s.td[k] with windowCount := s.td[k].windowCount - windowsOn (servedFor p s) s k } := by
    rw [listed, closes]
  have records : (closedWindows false (openServed p allEntries s) s).er
      = (postAll (forcedCloses false (servedFor p s) s) s).er := by
    rw [listed, closes]
  rw [detachEntries_eq, foldl_freeIfOwned_eq p once, freedAmong, frees, serves, tracks, records]
  rfl

/-! ### Part 3: the claim (R170, R183) -/

/-- The port that the claim goes to when p leaves. -/
def heirOf (p : Port) (c : ClaimController) : Option Port := if c.holder = some p then c.waiting.head? else none

def claimWithout (p : Port) (c : ClaimController) : ClaimController :=
  { c with
    holder := if c.holder = some p then c.waiting.head? else c.holder
    waiting := if c.holder = some p then c.waiting.drop 1 else c.waiting.filter fun q => q ≠ p
    staged := if c.holder = some p then (heirOf p c).map fun _ => c.active else c.staged
    claimMarks := Vector.ofFn fun q => c.claimMarks[q] && q != p && heirOf p c != some q }

/-- The CLAIM cause set for the ports that are told. -/
def claimCaused (told : Port → Bool) (er : Vector EventPort 4) : Vector EventPort 4 :=
  Vector.ofFn fun q => { er[q] with claimCause := er[q].claimCause || told q }

theorem claimCaused_at (told : Port → Bool) (er : Vector EventPort 4) (q : Port) :
    (claimCaused told er)[q] = { er[q] with claimCause := er[q].claimCause || told q } := ofFn_at _ q

theorem claimCaused_nobody (er : Vector EventPort 4) : claimCaused (fun _ => false) er = er :=
  vector_ext_at fun q => by rw [claimCaused_at, Bool.or_false]

/-- The marks that stay: not p's, and not that of a port that is told. -/
theorem claimMarks_left {told : Port → Bool} {p : Port} {heir : Option Port} (marks : Vector Bool 4)
    (others : ∀ q, q ≠ p → told q = (heir == some q)) :
    (vmod (Vector.ofFn fun q : Port => marks[q] && !told q) p fun _ => false)
      = Vector.ofFn fun q : Port => marks[q] && q != p && heir != some q := by
  refine vector_ext_at fun q => ?_
  rw [vmod_at, ofFn_at, ofFn_at]
  by_cases same : p = q
  · subst same
    simp
  · rw [if_neg same, others q (Ne.symm same), bne_iff_ne.2 (Ne.symm same), Bool.and_true]
    rfl

theorem detachClaim_of_holder {p : Port} {s : State} (sound : ClaimSound s) (held : s.cc.holder = some p) :
    ∃ told : Port → Bool, (∀ q, q ≠ p → told q = (heirOf p s.cc == some q))
      ∧ detachClaim p s = { s with cc := claimWithout p s.cc, er := claimCaused told s.er } := by
  obtain ⟨-, waitsNot, -, stagedIff⟩ := sound
  obtain ⟨c, staged⟩ := Option.isSome_iff_exists.1 (stagedIff.2 (by rw [held]; rfl))
  have gives : giveUpClaim p s
      = toldClaim (fun q => (q == p && c != s.cc.active) || s.cc.waiting.head? == some q) (passedOn s) := by
    rw [giveUpClaim, noteDiscarded_eq_toldClaim staged, passClaim_toldClaim]
  have heir : heirOf p s.cc = s.cc.waiting.head? := if_pos held
  have others (q : Port) (other : q ≠ p) :
      ((q == p && c != s.cc.active) || s.cc.waiting.head? == some q) = (heirOf p s.cc == some q) := by
    rw [heir, beq_false_of_ne other, Bool.false_and, Bool.false_or]
  have waiting : (s.cc.waiting.drop 1).filter (fun q => q ≠ p) = s.cc.waiting.drop 1 :=
    filter_ne_of_not_mem fun waits => waitsNot p held (List.mem_of_mem_drop waits)
  have copy : (if s.cc.waiting = [] then none else some s.cc.active) = s.cc.waiting.head?.map fun _ => s.cc.active := by
    cases s.cc.waiting <;> rfl
  have marks := claimMarks_left s.cc.claimMarks others
  refine ⟨_, others, ?_⟩
  rw [detachClaim, if_pos held, gives, claimWithout, if_pos held, if_pos held, if_pos held, ← marks, heir, ← copy,
    ← waiting]
  rfl

theorem detachClaim_of_other {p : Port} {s : State} (other : s.cc.holder ≠ some p) :
    detachClaim p s = { s with cc := claimWithout p s.cc } := by
  have heir : heirOf p s.cc = none := if_neg other
  have unmarked : (vmod s.cc.claimMarks p fun _ => false)
      = Vector.ofFn fun q : Port => s.cc.claimMarks[q] && q != p && (none : Option Port) != some q := by
    rw [← claimMarks_left (told := fun _ => false) s.cc.claimMarks fun _ _ => rfl]
    refine congrArg (vmod · p fun _ => false) (vector_ext_at fun q => ?_)
    rw [ofFn_at, Bool.not_false, Bool.and_true]
  rw [detachClaim, if_neg other, claimWithout, if_neg other, if_neg other, if_neg other, heir, ← unmarked]
  rfl

/-- What the release of the claim, or of the place on the waiting list, does: of the other ports it tells the heir alone. -/
theorem detachClaim_leaves {p : Port} {s : State} (sound : ClaimSound s) :
    ∃ told : Port → Bool, (∀ q, q ≠ p → told q = (heirOf p s.cc == some q))
      ∧ detachClaim p s = { s with cc := claimWithout p s.cc, er := claimCaused told s.er } := by
  by_cases held : s.cc.holder = some p
  · exact detachClaim_of_holder sound held
  · refine ⟨fun _ => false, fun q _ => ?_, ?_⟩
    · rw [heirOf, if_neg held]
      rfl
    · rw [claimCaused_nobody]
      exact detachClaim_of_other held

/-! ### The parts together (R193) -/

/-- The tracks after the forced closes, with those of p released (R147). -/
def tracksWithout (p : Port) (s : State) : Vector Track 8 :=
  Vector.ofFn fun k =>
    if s.td[k].owner = some p then
      ⟨none, false, s.td[k].windowCount - windowsOn (servedFor p s) s k, none, false, false, false⟩
    else { s.td[k] with windowCount := s.td[k].windowCount - windowsOn (servedFor p s) s k }

/-- The hub after DETACH, when the ports `told` have had their CLAIM cause set. -/
def hubWithout (told : Port → Bool) (p : Port) (s : State) : State :=
  { s with
    ctc := tableWithout p s
    fs := listsWithout p s
    td := tracksWithout p s
    cc := claimWithout p s.cc
    er := (claimCaused told (postAll (forcedCloses false (servedFor p s) s) s).er).set p.val EventPort.default
    eq := { s.eq with latches := s.eq.latches.set p.val (Vector.replicate 4 ⟨false, false⟩) }
    pt := { s.pt with stepSeen := s.pt.stepSeen.set p.val ⟨false, false⟩ }
    ls := { s.ls with lockMarks := s.ls.lockMarks.set p.val false }
    pi := s.pi.set p.val { s.pi[p] with frameErrors := 0 } }

theorem releaseTracksOf_detachEntries (p : Port) (s : State) :
    releaseTracksOf p (detachEntries p s) = { detachEntries p s with td := tracksWithout p s } := by
  have tracks : (vall (detachEntries p s).td fun k => if k.owner = some p then k.release else k) = tracksWithout p s := by
    refine vector_ext_at fun k => ?_
    rw [vall_at, tracksWithout, ofFn_at, detachEntries_leaves, ofFn_at]
    rfl
  rw [releaseTracksOf, tracks]

theorem actDetach_leaves {p : Port} {s : State} (sound : ClaimSound s) :
    ∃ told : Port → Bool, (∀ q, q ≠ p → told q = (heirOf p s.cc == some q))
      ∧ (actDetach p s).1 = hubWithout told p s := by
  have released := releaseTracksOf_detachEntries p s
  rw [detachEntries_leaves] at released
  obtain ⟨told, others, claim⟩ := detachClaim_leaves (p := p) (s := releaseTracksOf p (detachEntries p s))
    (by rw [ClaimSound, detachEntries_leaves, released]; exact sound)
  rw [detachEntries_leaves, released] at claim others
  refine ⟨told, others, ?_⟩
  rw [actDetach_eq, detached, detachEntries_leaves, released, claim]
  rfl

/-! ### What p holds after DETACH -/

section Gone

variable (told : Port → Bool) (p : Port) (s : State)

theorem hubWithout_er_self : (hubWithout told p s).er[p] = EventPort.default := by
  simp [hubWithout]

theorem hubWithout_er_of_ne {q : Port} (other : q ≠ p) :
    (hubWithout told p s).er[q] = { (postAll (forcedCloses false (servedFor p s) s) s).er[q] with
      claimCause := s.er[q].claimCause || told q } := by
  have frame := postAll_frame (forcedCloses false (servedFor p s) s) s
  obtain ⟨-, -, -, -, -, claimCause, -⟩ := frame.ports q
  have place : (hubWithout told p s).er[q]
      = (claimCaused told (postAll (forcedCloses false (servedFor p s) s) s).er)[q] :=
    vmod_ne _ p q (fun _ => EventPort.default) other.symm
  rw [place, claimCaused_at, claimCause]

theorem hubWithout_latch (n : GateNo) : (hubWithout told p s).eq.latches[p][n] = ⟨false, false⟩ := by
  simp [hubWithout]

/-- R16, R165: with no latch set and delivery as by default, no cause is pending. -/
theorem hubWithout_causes : (hubWithout told p s).causes p = 0 := by
  have input : (hubWithout told p s).inputCause p = false := by simp [State.inputCause, hubWithout]
  rw [State.causes, hubWithout_er_self, input]
  decide

theorem hubWithout_attentionLow : (hubWithout told p s).attentionLow p = false := by
  simp [State.attentionLow, State.effectiveCauses, hubWithout_causes]

theorem hubWithout_marked : marked (hubWithout told p s) p = false := by
  refine (marked_eq_false_iff _ p).2 ⟨fun n => congrArg Marked.mark (hubWithout_latch told p s n), ?_, ?_, ?_, ?_⟩
  · simp [hubWithout]
  · simp [hubWithout]
  · simp [hubWithout, claimWithout]
  · rw [hubWithout_er_self]
    exact ⟨rfl, rfl, fun n => by simp [EventPort.default, LatestRegister.empty]⟩

end Gone

/-- Settles O54: the parts of DETACH leave the hub without the port's entries, tracks, claim and deliveries. -/
theorem detachGivesUpEverything : Obligations.DetachGivesUpEverything := by
  unfold Obligations.DetachGivesUpEverything
  intro p s sound
  obtain ⟨told, others, leaves⟩ := actDetach_leaves (p := p) sound
  refine ⟨hubWithout told p s, ownedBy p s, servedFor p s, heirOf p s.cc, ownedBy_iff p s, servedFor_iff p s, rfl,
    answers_of (act := actDetach p) rfl rfl leaves rfl, fun i => ofFn_at _ i, rfl, ?_, rfl, fun k => ofFn_at _ k, rfl,
    hubWithout_er_self told p s, hubWithout_causes told p s, hubWithout_attentionLow told p s,
    hubWithout_marked told p s, fun q other => ?_, rfl, rfl, rfl, rfl, ?_⟩
  · unfold hubWithout tableWithout
    rfl
  · rw [hubWithout_er_of_ne told p s other, others q other]
  · unfold hubWithout
    rfl

end Sys2Proof.Proofs
end

section
/-! PROOFS. What the step does where a command waits (log entry 2); `step_of_pending_nil` says what it does where none
does. -/

namespace Sys2Proof.Proofs

open Sys2Proof Sys2Proof.Machine

theorem step_of_pending_cons {s : State} {c : Instr} {rest : List Instr} (h : s.pending = c :: rest) :
    step s = exec c { s with pending := rest } := by
  simp only [step, h]

/-- Settles O1, by the step's equation for a queue with a front command. -/
theorem stepTakesTheFrontCommand : Obligations.StepTakesTheFrontCommand := by
  unfold Obligations.StepTakesTheFrontCommand
  intro c rest s
  exact step_of_pending_cons rfl

end Sys2Proof.Proofs
end
